-- ==== Sys2Proof/Word.lean ====
section
/-! DEFINITION. The unsigned words of the block (R10, R245): bytes of buffer memory, 32-bit words of the
command frame and of the MD5, SHA-256 and ChaCha20 engines, 64-bit words of the SHA-512 engine.
Addition on them wraps and drops the carry (R11). -/

namespace Sys2Proof

/-- A byte of buffer memory or of a partial block (R60, R25). -/
abbrev Byte := BitVec 8

/-- A 32-bit word: a frame word, a response, a word of the MD5, SHA-256 and ChaCha20 engines (R21, R22). -/
abbrev Word := BitVec 32

/-- A 64-bit word of the SHA-512 engine (R27, R199). -/
abbrev DWord := BitVec 64

end Sys2Proof
end

