-- ==== Sys2Proof/Config.lean ====
section
/-! DEFINITION. What is fixed for this hardware or left to the platform (R9), and the one source of free
values. The two parameters that the spec leaves open to a model, `ValidAddr` and `SHA512_COUNTER_BITS`,
are plain data of the state (`Machine.Platform`), so that every statement over all states holds for every
choice of them; the values here are the ones `State.reset` takes. -/

namespace Sys2Proof

/-- `ADDR_BITS`, the width of a buffer address (R9, R60). -/
def Config.addrBits : Nat := 32

/-- One past the highest byte address, 2^32 (R62 (b)). -/
def Config.addressLimit : Nat := 2 ^ Config.addrBits

/-- `MD5_MAXLEN`, the largest length of one MD5_DATAADD (R9). -/
def Config.md5MaxLength : Nat := 65535

/-- `SHA512_COUNTER_BITS` by default (R9, D12). -/
def Config.sha512CounterBits : Nat := 64

/-- DESIGN CHOICE (log entry 3), unsafe: base of the one region of memory the platform has at reset. -/
def Config.resetRegionBase : Nat := 0

/-- DESIGN CHOICE (log entry 3), unsafe: size of the one region of memory the platform has at reset. -/
def Config.resetRegionSize : Nat := Config.addressLimit

/-- The free values (log entry 7), safe: nothing constrains `freeBits index slot width`. The step supplies a
fresh `index` from the state for each E_CALC, whose context contents the spec leaves unspecified (R37, U7);
`slot` numbers the elements of one context. -/
opaque Config.freeBits (index slot width : Nat) : BitVec width

end Sys2Proof
end

