-- ==== Sys2Proof/Syntax.lean ====
section
/-! DEFINITION. The command frame (R90), the two SHA-2 variant tags (R94) and the twelve commands (R93), one
constructor per row of the opcode table, each with the operands its row names. -/

namespace Sys2Proof

/-- A command frame: the command word and three operand words (R90). -/
structure Frame where
  w0 : Word
  a0 : Word
  a1 : Word
  a2 : Word
  deriving DecidableEq, Repr

/-- The variants of the SHA-256 engine (R26, R94). -/
inductive Sha256Variant where
  | sha224
  | sha256
  deriving DecidableEq, Repr

/-- The variants of the SHA-512 engine (R27, R94). -/
inductive Sha512Variant where
  | sha384
  | sha512
  deriving DecidableEq, Repr

/-- The twelve commands (R93). Operand words that a command ignores (R97 (d)) are no part of it. -/
inductive Instr where
  /-- MD5_INIT (R135). -/
  | md5Init
  /-- MD5_DATAADD data, length (R136); `length` is all of A1, of which only bits 15..0 may be set. -/
  | md5DataAdd (data length : Word)
  /-- MD5_CALC outDigest (R137). -/
  | md5Calc (outDigest : Word)
  /-- SHA256_INIT.variant (R166). -/
  | sha256Init (variant : Sha256Variant)
  /-- SHA256_DATAADD data, length (R167). -/
  | sha256DataAdd (data length : Word)
  /-- SHA256_CALC outDigest (R168). -/
  | sha256Calc (outDigest : Word)
  /-- SHA512_INIT.variant (R196). -/
  | sha512Init (variant : Sha512Variant)
  /-- SHA512_DATAADD data, length (R197). -/
  | sha512DataAdd (data length : Word)
  /-- SHA512_CALC outDigest (R198). -/
  | sha512Calc (outDigest : Word)
  /-- CHACHA20_KEYEXPAND nonce, key, keyLength (R225); `keyLength` is MOD, every value of it encodable. -/
  | chacha20KeyExpand (nonce key : Word) (keyLength : Byte)
  /-- CHACHA20_ENCRYPT output, message, length (R226). -/
  | chacha20Encrypt (output message length : Word)
  /-- CHACHA20_POSITIONSET upper6, high32, low32 (R227); `upper6` is all of MOD, of which only bits 5..0 may
  be set. -/
  | chacha20PositionSet (upper6 : Byte) (high32 low32 : Word)
  deriving DecidableEq, Repr

/-- The assembler's second name CHACHA20_DECRYPT: exactly CHACHA20_ENCRYPT (R106). -/
abbrev Instr.chacha20Decrypt (output message length : Word) : Instr :=
  .chacha20Encrypt output message length

/-- The assembler's second name MD5_ROMDATAADD: exactly MD5_DATAADD (R107). -/
abbrev Instr.md5RomDataAdd (data length : Word) : Instr :=
  .md5DataAdd data length

end Sys2Proof
end

