-- ==== Sys2Proof/WellFormed.lean ====
section
/-! DEFINITION. Which commands a frame can encode (R94, R96, R97 (c)): the length of MD5_DATAADD fits 16
bits, and the upper part of a keystream position fits 6. Every other operand may hold any value. -/

namespace Sys2Proof

/-- The operand checks of R97 (c) on a command's fields. -/
def Instr.wellFormed : Instr → Bool
  | .md5Init => true
  | .md5DataAdd _ length => decide (length.toNat ≤ Config.md5MaxLength)
  | .md5Calc _ => true
  | .sha256Init _ => true
  | .sha256DataAdd _ _ => true
  | .sha256Calc _ => true
  | .sha512Init _ => true
  | .sha512DataAdd _ _ => true
  | .sha512Calc _ => true
  | .chacha20KeyExpand _ _ _ => true
  | .chacha20Encrypt _ _ _ => true
  | .chacha20PositionSet upper6 _ _ => decide (upper6.toNat < 64)

end Sys2Proof
end

