-- ==== Sys2Proof/Decode.lean ====
section
/-! DEFINITION. The frame as bits (R90), the fields of the command word (R91), the decode procedure (R97),
total and refusing by name, and the encoder written from the same tables (R93, R94). -/

namespace Sys2Proof

/-- Why a frame encodes no command (R97 (a) to (c)). Each reason raises IllegalCommand (R262). -/
inductive DecodeError where
  /-- R97 (a): W0[31:16] is not zero. -/
  | reservedBits (rsv : BitVec 16)
  /-- R97 (b): W0[7:0] is not one of the twelve opcodes. -/
  | unknownOpcode (opcode : Byte)
  /-- R97 (c): MOD has a value the opcode does not allow. -/
  | badModifier (opcode mod : Byte)
  /-- R97 (c): MD5_DATAADD with A1[31:16] not zero. -/
  | lengthTooLong (a1 : Word)
  deriving DecidableEq, Repr

/-- The frame read as one 128-bit value A2 : A1 : A0 : W0, W0 in bits 31..0 (R90). -/
def frameOfBits (v : BitVec 128) : Frame :=
  { w0 := v.extractLsb' 0 32, a0 := v.extractLsb' 32 32, a1 := v.extractLsb' 64 32, a2 := v.extractLsb' 96 32 }

/-- RSV = W0[31:16] (R91). -/
def fieldRsv (w0 : Word) : BitVec 16 := w0.extractLsb' 16 16

/-- MOD = W0[15:8] (R91). -/
def fieldMod (w0 : Word) : Byte := w0.extractLsb' 8 8

/-- OPCODE = W0[7:0] = ENG : FN (R91). -/
def fieldOpcode (w0 : Word) : Byte := w0.extractLsb' 0 8

/-- ENG = W0[7:4] (R91). -/
def fieldEng (w0 : Word) : BitVec 4 := w0.extractLsb' 4 4

/-- FN = W0[3:0] (R91). -/
def fieldFn (w0 : Word) : BitVec 4 := w0.extractLsb' 0 4

/-- An opcode without a modifier: MOD must be 0 (R94, R97 (c)). -/
def decodePlain (opcode mod : Byte) (i : Instr) : Except DecodeError Instr :=
  if mod = 0 then .ok i else .error (.badModifier opcode mod)

/-- MD5_DATAADD: MOD must be 0, then A1[31:16] must be 0 (R97 (c)). -/
def decodeMd5DataAdd (mod : Byte) (data length : Word) : Except DecodeError Instr :=
  if mod = 0 then
    if length.extractLsb' 16 16 = 0 then .ok (.md5DataAdd data length) else .error (.lengthTooLong length)
  else .error (.badModifier 0x01 mod)

/-- SHA256_INIT: MOD 0 is SHA224, 1 is SHA256, nothing else is allowed (R94). -/
def decodeSha256Init (mod : Byte) : Except DecodeError Instr :=
  if mod = 0 then .ok (.sha256Init .sha224)
  else if mod = 1 then .ok (.sha256Init .sha256)
  else .error (.badModifier 0x10 mod)

/-- SHA512_INIT: MOD 0 is SHA384, 1 is SHA512, nothing else is allowed (R94). -/
def decodeSha512Init (mod : Byte) : Except DecodeError Instr :=
  if mod = 0 then .ok (.sha512Init .sha384)
  else if mod = 1 then .ok (.sha512Init .sha512)
  else .error (.badModifier 0x20 mod)

/-- CHACHA20_POSITIONSET: MOD[7:6] must be 0 (R97 (c)). -/
def decodePositionSet (mod : Byte) (high32 low32 : Word) : Except DecodeError Instr :=
  if mod.extractLsb' 6 2 = 0 then .ok (.chacha20PositionSet mod high32 low32)
  else .error (.badModifier 0x32 mod)

/-- The opcode map (R93) with the modifier checks of R94, for a frame whose RSV is zero. -/
def decodeOpcode (opcode mod : Byte) (f : Frame) : Except DecodeError Instr :=
  match opcode with
  | 0x00#8 => decodePlain opcode mod .md5Init
  | 0x01#8 => decodeMd5DataAdd mod f.a0 f.a1
  | 0x02#8 => decodePlain opcode mod (.md5Calc f.a0)
  | 0x10#8 => decodeSha256Init mod
  | 0x11#8 => decodePlain opcode mod (.sha256DataAdd f.a0 f.a1)
  | 0x12#8 => decodePlain opcode mod (.sha256Calc f.a0)
  | 0x20#8 => decodeSha512Init mod
  | 0x21#8 => decodePlain opcode mod (.sha512DataAdd f.a0 f.a1)
  | 0x22#8 => decodePlain opcode mod (.sha512Calc f.a0)
  | 0x30#8 => .ok (.chacha20KeyExpand f.a0 f.a1 mod)
  | 0x31#8 => decodePlain opcode mod (.chacha20Encrypt f.a0 f.a1 f.a2)
  | 0x32#8 => decodePositionSet mod f.a0 f.a1
  | _ => .error (.unknownOpcode opcode)

/-- The decode procedure, applied to a frame before any state is read (R97). -/
def decode (f : Frame) : Except DecodeError Instr :=
  if fieldRsv f.w0 = 0 then decodeOpcode (fieldOpcode f.w0) (fieldMod f.w0) f
  else .error (.reservedBits (fieldRsv f.w0))

/-- The opcode of each command (R93). -/
def opcodeOf : Instr → Byte
  | .md5Init => 0x00
  | .md5DataAdd _ _ => 0x01
  | .md5Calc _ => 0x02
  | .sha256Init _ => 0x10
  | .sha256DataAdd _ _ => 0x11
  | .sha256Calc _ => 0x12
  | .sha512Init _ => 0x20
  | .sha512DataAdd _ _ => 0x21
  | .sha512Calc _ => 0x22
  | .chacha20KeyExpand _ _ _ => 0x30
  | .chacha20Encrypt _ _ _ => 0x31
  | .chacha20PositionSet _ _ _ => 0x32

/-- How many operand words a command uses, A0 first; the others are ignored (R93, R97 (d)). -/
def operandWords : Instr → Nat
  | .md5Init => 0
  | .md5DataAdd _ _ => 2
  | .md5Calc _ => 1
  | .sha256Init _ => 0
  | .sha256DataAdd _ _ => 2
  | .sha256Calc _ => 1
  | .sha512Init _ => 0
  | .sha512DataAdd _ _ => 2
  | .sha512Calc _ => 1
  | .chacha20KeyExpand _ _ _ => 2
  | .chacha20Encrypt _ _ _ => 3
  | .chacha20PositionSet _ _ _ => 2

/-- The command word with RSV zero (R91). -/
def commandWord (opcode mod : Byte) : Word := mod.setWidth 32 <<< 8 ||| opcode.setWidth 32

/-- The frame of a command, unused operand words zero (R93, R94, R101). -/
def encode : Instr → Frame
  | .md5Init => { w0 := commandWord 0x00 0, a0 := 0, a1 := 0, a2 := 0 }
  | .md5DataAdd data length => { w0 := commandWord 0x01 0, a0 := data, a1 := length, a2 := 0 }
  | .md5Calc outDigest => { w0 := commandWord 0x02 0, a0 := outDigest, a1 := 0, a2 := 0 }
  | .sha256Init .sha224 => { w0 := commandWord 0x10 0, a0 := 0, a1 := 0, a2 := 0 }
  | .sha256Init .sha256 => { w0 := commandWord 0x10 1, a0 := 0, a1 := 0, a2 := 0 }
  | .sha256DataAdd data length => { w0 := commandWord 0x11 0, a0 := data, a1 := length, a2 := 0 }
  | .sha256Calc outDigest => { w0 := commandWord 0x12 0, a0 := outDigest, a1 := 0, a2 := 0 }
  | .sha512Init .sha384 => { w0 := commandWord 0x20 0, a0 := 0, a1 := 0, a2 := 0 }
  | .sha512Init .sha512 => { w0 := commandWord 0x20 1, a0 := 0, a1 := 0, a2 := 0 }
  | .sha512DataAdd data length => { w0 := commandWord 0x21 0, a0 := data, a1 := length, a2 := 0 }
  | .sha512Calc outDigest => { w0 := commandWord 0x22 0, a0 := outDigest, a1 := 0, a2 := 0 }
  | .chacha20KeyExpand nonce key keyLength => { w0 := commandWord 0x30 keyLength, a0 := nonce, a1 := key, a2 := 0 }
  | .chacha20Encrypt output message length => { w0 := commandWord 0x31 0, a0 := output, a1 := message, a2 := length }
  | .chacha20PositionSet upper6 high32 low32 =>
      { w0 := commandWord 0x32 upper6, a0 := high32, a1 := low32, a2 := 0 }

/-- The command the decoder reads from a frame whose bits are `w`, numbered as the opcode table numbers them;
`nbits` bits are given, and the bits above them are zero. -/
def decodeTableWord (nbits w : Nat) : Option Instr :=
  match decode (frameOfBits (BitVec.ofNat 128 (w % 2 ^ nbits))) with
  | .ok i => some i
  | .error _ => none

end Sys2Proof
end

