-- ==== Sys2Proof/Machine/State.lean ====
section
/-! DEFINITION. The whole state of the block (R20), buffer memory and the platform's parameters beside it
(R9, R60), the host's remaining actions (R7, R300), why a step stops, and the state after reset (R36). Plain
data throughout. -/

namespace Sys2Proof.Machine

/-- The three hash engines (R1). -/
inductive HashEngine where
  | md5
  | sha256
  | sha512
  deriving DecidableEq, Repr

/-- The phase of a hash context (R29). -/
inductive Phase where
  | uninitialized
  | accumulating
  | finalized
  deriving DecidableEq, Repr

/-- The MD5 context (R25). -/
structure Md5Context where
  h : Vector Word 4
  total : Word
  buf : Vector Byte 64
  phase : Phase
  deriving DecidableEq, Repr

/-- The SHA-256 context (R26). -/
structure Sha256Context where
  h : Vector Word 8
  total : Word
  buf : Vector Byte 64
  variant : Sha256Variant
  phase : Phase
  deriving DecidableEq, Repr

/-- The SHA-512 context (R27). `total` carries a counter of `SHA512_COUNTER_BITS` bits (at most 128) in its low
bits, the rest zero (log entry 4). -/
structure Sha512Context where
  h : Vector DWord 8
  total : BitVec 128
  buf : Vector Byte 128
  variant : Sha512Variant
  phase : Phase
  deriving DecidableEq, Repr

/-- The ChaCha20 context (R30 to R32): the state matrix, the keystream block, how many bytes of it are consumed
(0 to 64), and whether a key has been loaded. -/
structure ChachaContext where
  key : Vector Word 16
  ks : Vector Word 16
  off : BitVec 7
  keyed : Bool
  deriving DecidableEq, Repr

/-- A region of addresses that hold buffer memory: `base` up to but excluding `base + size`. -/
structure Region where
  base : Nat
  size : Nat
  deriving DecidableEq, Repr

/-- The two parameters a model takes (R9): `ValidAddr`, as the list of regions whose union it is (log entry 3),
and `SHA512_COUNTER_BITS` (log entry 4). No step changes them. -/
structure Platform where
  valid : List Region
  sha512CounterBits : Nat
  deriving DecidableEq, Repr

/-- What the host can do between commands (R300): issue a frame (R90), write a byte of buffer memory, or assert
reset (R290). Reading memory or RESP changes nothing and is no action. -/
inductive HostAction where
  | issue (f : Frame)
  | writeByte (a : Word) (b : Byte)
  | reset
  deriving DecidableEq, Repr

/-- The two synchronous exceptions (R260); their whole effect is a code in RESP (R264). -/
inductive Exception where
  /-- Raised by CHACHA20_KEYEXPAND for a key length other than 16 and 32 (R261). -/
  | invalidKeyLength
  /-- Raised by decoding for a frame that encodes no command (R262). -/
  | illegalCommand
  deriving DecidableEq, Repr

/-- Why a buffer is not valid (R62). -/
inductive BufferError where
  /-- R62 (a): the pointer is 0. -/
  | nullPointer
  /-- R62 (b): the range passes the top of the address space. -/
  | wraps
  /-- R62 (c): some byte of the range is outside `ValidAddr`. -/
  | notMapped
  deriving DecidableEq, Repr

/-- Buffer memory: (address, byte) pairs, addresses strictly rising, no byte equal to what an unlisted address
reads as (R60; log entry 5). -/
abbrev Memory := List Host.Cell

structure State where
  /-- The command frame registers (R21). -/
  w0 : Word
  a0 : Word
  a1 : Word
  a2 : Word
  /-- The response register (R22). -/
  resp : Word
  md5 : Md5Context
  s256 : Sha256Context
  s512 : Sha512Context
  cc : ChachaContext
  /-- Buffer memory, owned by the host between commands (R60). -/
  mem : Memory
  /-- The parameters of R9; no step changes them. -/
  platform : Platform
  /-- The model's own field (log entry 2): the host's remaining actions, the next one first. -/
  input : List HostAction
  /-- The model's own field (log entry 7): which free values the next E_CALC leaves in its context. -/
  freeIndex : Nat
  deriving DecidableEq, Repr

/-- Why the machine stops with a fault. The block itself has no fault (93 part 1: "No case has the treatment
fault or stuck"). -/
inductive Fault where
  /-- Raised by the host action `writeByte` for an address the platform does not have: R300 lets the host write
  valid buffer memory only. Safe: the run stops where the spec gives none (log entry 9). -/
  | hostWriteOutsideMemory (a : Word)
  deriving DecidableEq, Repr

/-- Why a step is refused: the cases the spec calls undefined and has a model refuse (93 U1 to U5). Each is safe:
the run stops where the spec gives no result (log entry 8). -/
inductive Refusal where
  /-- An instruction without a meaning. Raised by `exec`'s arms only; no arm raises it. Safe. -/
  | notModelled (mnemonic : String)
  /-- U1: E_DATAADD or E_CALC in phase FINALIZED (R29, R293). Raised by the six of them. Safe. -/
  | contextFinalized (e : HashEngine)
  /-- U2: E_DATAADD or E_CALC in phase UNINITIALIZED (R29). Raised by the six of them. Safe. -/
  | contextUninitialized (e : HashEngine)
  /-- U3: CHACHA20_ENCRYPT or CHACHA20_POSITIONSET before any successful key expansion (R32). Raised by those two.
  Safe. -/
  | chachaNotKeyed
  /-- U4: a buffer that is not valid (R62). Raised by the eight commands of R75. Safe. -/
  | invalidBuffer (pointer : Word) (byteCount : Nat) (why : BufferError)
  /-- U5: `message` and `output` of CHACHA20_ENCRYPT overlap without being identical (R74). Safe. -/
  | partialOverlap (output message length : Word)
  deriving DecidableEq, Repr

/-- The machine right after reset (R36, R291). Given by the spec: RESP, the three phases, `keyed`, and
SHA512_COUNTER_BITS = 64 (R9). DESIGN CHOICE, unsafe (log entry 6): every element the spec leaves unspecified is
zero (a variant: the one coded 0). DESIGN CHOICE (log entries 2, 3, 5, 7): no host action pending, the whole
address space valid, memory with nothing listed, `freeIndex` 0. -/
def State.reset : State where
  w0 := 0
  a0 := 0
  a1 := 0
  a2 := 0
  resp := 0
  md5 := { h := Vector.replicate 4 0, total := 0, buf := Vector.replicate 64 0, phase := .uninitialized }
  s256 := { h := Vector.replicate 8 0, total := 0, buf := Vector.replicate 64 0, variant := .sha224,
            phase := .uninitialized }
  s512 := { h := Vector.replicate 8 0, total := 0, buf := Vector.replicate 128 0, variant := .sha384,
            phase := .uninitialized }
  cc := { key := Vector.replicate 16 0, ks := Vector.replicate 16 0, off := 0, keyed := false }
  mem := []
  platform := { valid := [{ base := Config.resetRegionBase, size := Config.resetRegionSize }],
                sha512CounterBits := Config.sha512CounterBits }
  input := []
  freeIndex := 0

end Sys2Proof.Machine
end

