-- ==== Sys2Proof/Machine/Flags.lean ====
section
/-! DEFINITION. The block has no condition codes (R24). Its one status register is RESP: this file gives the
response codes (R22, R100, R260), the only flag computation there is. -/

namespace Sys2Proof.Machine

/-- RESP of a command that completes: OK (R100). -/
def responseOk : Word := 0

/-- RESP of a command that ends in an exception: 1 INVALID_KEY_LENGTH, 2 ILLEGAL_COMMAND (R260). -/
def exceptionCode : Exception → Word
  | .invalidKeyLength => 1
  | .illegalCommand => 2

/-- The code is in RESP[7:0]; RESP[31:8] reads as zero (R22). -/
def responseCode (resp : Word) : Byte := resp.extractLsb' 0 8

/-- The source's success flag: RESP[7:0] = 0 (R22). -/
def responseIsSuccess (resp : Word) : Bool := responseCode resp = 0

end Sys2Proof.Machine
end

