-- ==== Sys2Proof/Machine/Operands.lean ====
section
/-! DEFINITION. Every operand form of the commands: lengths and position (R96), effective addresses (R95,
R242), the validity of a buffer (R62), the byte counts of R75, and the overlap rule of CHACHA20_ENCRYPT (R74). -/

namespace Sys2Proof.Machine

/-- `length` of MD5_DATAADD is A1[15:0] (R96). -/
def md5Length (a1 : Word) : Nat := (a1.extractLsb' 0 16).toNat

/-- `length` of SHA256_DATAADD, SHA512_DATAADD and CHACHA20_ENCRYPT is the whole operand word (R96). -/
def wordLength (a : Word) : Nat := a.toNat

/-- Address of byte k of the buffer at pointer p: plain integer addition, no wrap (R95, R242). -/
def effectiveAddress (p : Word) (k : Nat) : Nat := p.toNat + k

/-- The 70-bit keystream position MOD[5:0] : high32 : low32 (R96, R227). -/
def streamPosition (upper6 : Byte) (high32 low32 : Word) : BitVec 70 :=
  upper6.extractLsb' 0 6 ++ high32 ++ low32

/-- position[37:6], the low half of the block counter (R227). -/
def positionCounterLow (position : BitVec 70) : Word := position.extractLsb' 6 32

/-- position[69:38], the high half of the block counter (R227). -/
def positionCounterHigh (position : BitVec 70) : Word := position.extractLsb' 38 32

/-- position[5:0], the offset in the keystream block, 0 to 63 (R227). -/
def positionOffset (position : BitVec 70) : BitVec 7 := (position.extractLsb' 0 6).setWidth 7

/-- The address lies in the region. -/
def regionContains (r : Region) (a : Nat) : Bool := decide (r.base ≤ a) && decide (a < r.base + r.size)

/-- `ValidAddr(a)`: some region of the platform holds the address (R9, R62 (c)). -/
def validAddr (pl : Platform) (a : Nat) : Bool := pl.valid.any fun r => regionContains r a

/-- `ValidAddr` holds for each of the n addresses from a on (R62 (c)). -/
def validRange (pl : Platform) : Nat → Nat → Bool
  | _, 0 => true
  | a, n + 1 => validAddr pl a && validRange pl (a + 1) n

/-- Whether the buffer of n bytes at p is valid, and if not, why (R62); pointer 0 is never valid, whatever n is
(D20). -/
def bufferError (pl : Platform) (p : Word) (n : Nat) : Option BufferError :=
  if p = 0 then some .nullPointer
  else if Config.addressLimit < p.toNat + n then some .wraps
  else if validRange pl p.toNat n then none
  else some .notMapped

/-- `output = message`, or the two ranges are disjoint (R74). -/
def overlapAllowed (output message : Word) (n : Nat) : Bool :=
  decide (output = message) || decide (output.toNat + n ≤ message.toNat)
    || decide (message.toNat + n ≤ output.toNat)

/-- Bytes of the MD5 digest (R75, R137). -/
def md5DigestBytes : Nat := 16

/-- State words of the digest: the first 7 of 8 for SHA-224 (R168). -/
def sha256DigestWords : Sha256Variant → Nat
  | .sha224 => 7
  | .sha256 => 8

/-- Bytes of the digest: 28 or 32 (R75). -/
def sha256DigestBytes (v : Sha256Variant) : Nat := 4 * sha256DigestWords v

/-- State words of the digest: the first 6 of 8 for SHA-384 (R198). -/
def sha512DigestWords : Sha512Variant → Nat
  | .sha384 => 6
  | .sha512 => 8

/-- Bytes of the digest: 48 or 64 (R75). -/
def sha512DigestBytes (v : Sha512Variant) : Nat := 8 * sha512DigestWords v

/-- Bytes of the nonce (R75, R225). -/
def nonceBytes : Nat := 8

/-- The two key lengths that CHACHA20_KEYEXPAND accepts (R225). -/
def keyLengthValid (keyLength : Byte) : Bool := decide (keyLength = 16) || decide (keyLength = 32)

end Sys2Proof.Machine
end

