-- ==== Sys2Proof/Machine/Ops.lean ====
section
/-! DEFINITION. The named operations every command is made of: byte order (R15), buffer memory (R13, R65),
updates of the state, completing and raising an exception (R14, R264), the preconditions a model refuses (93 U1
to U4), free values (R37), and the streaming shape the three hash engines share (R28, R136, R137). -/

namespace Sys2Proof.Machine

/-! ### Byte order (R15) -/

/-- LE32: the first byte is the least significant (R15). -/
def le32 (b0 b1 b2 b3 : Byte) : Word := b3 ++ b2 ++ b1 ++ b0

/-- BE32: the first byte is the most significant (R15). -/
def be32 (b0 b1 b2 b3 : Byte) : Word := b0 ++ b1 ++ b2 ++ b3

/-- BE64: the first byte is the most significant (R15). -/
def be64 (b0 b1 b2 b3 b4 b5 b6 b7 : Byte) : DWord := b0 ++ b1 ++ b2 ++ b3 ++ b4 ++ b5 ++ b6 ++ b7

/-- LEbyte(w, k): byte k counted from the least significant end (R15). -/
def leByte {n : Nat} (w : BitVec n) (k : Nat) : Byte := (w >>> (8 * k)).setWidth 8

/-- BEbyte_N(w, k): byte k counted from the most significant end (R15). -/
def beByte {n : Nat} (w : BitVec n) (k : Nat) : Byte := (w >>> (n - 8 - 8 * k)).setWidth 8

/-- The first `count` bytes of w, least significant first. -/
def leBytes {n : Nat} (w : BitVec n) (count : Nat) : List Byte := (List.range count).map (leByte w)

/-- The first `count` bytes of w, most significant first. -/
def beBytes {n : Nat} (w : BitVec n) (count : Nat) : List Byte := (List.range count).map (beByte w)

/-! ### Buffer memory (R13, R60, R65) -/

/-- DESIGN CHOICE (log entry 5), unsafe: what a byte that nothing has written reads as. -/
def Memory.unlisted : Byte := 0

/-- MemRead(a, 1) (R13). -/
def Memory.read : Memory → Nat → Byte
  | [], _ => Memory.unlisted
  | (k, v) :: rest, a => if k = a then v else Memory.read rest a

/-- Drop what is listed at an address. -/
def Memory.erase (m : Memory) (a : Nat) : Memory := m.filter fun c => c.1 != a

/-- List a byte at an address that is not listed, in rising order. -/
def Memory.insert : Memory → Nat → Byte → Memory
  | [], a, b => [(a, b)]
  | c :: rest, a, b => if a < c.1 then (a, b) :: c :: rest else c :: Memory.insert rest a b

/-- MemWrite(a, 1, b) (R13), keeping the canonical form: a byte equal to what an unlisted address reads as is
not listed. -/
def Memory.write (m : Memory) (a : Nat) (b : Byte) : Memory :=
  if b = Memory.unlisted then m.erase a else (m.erase a).insert a b

/-- The canonical form: addresses strictly rising, no listed byte equal to what an unlisted address reads as. -/
abbrev Memory.wf (m : Memory) : Prop :=
  (m.map Prod.fst).Pairwise (· < ·) ∧ ∀ c ∈ m, c.2 ≠ Memory.unlisted

/-- The n bytes from address a on, ascending (R73). -/
def Memory.readBytes (m : Memory) : Nat → Nat → List Byte
  | _, 0 => []
  | a, n + 1 => m.read a :: m.readBytes (a + 1) n

/-- Write bytes from address a on, ascending (R73). -/
def Memory.writeBytes : Memory → Nat → List Byte → Memory
  | m, _, [] => m
  | m, a, b :: bs => Memory.writeBytes (m.write a b) (a + 1) bs

/-! ### Updates of the state -/

/-- The host writes the four frame registers when it issues a command (R21). -/
def State.withFrame (s : State) (f : Frame) : State := { s with w0 := f.w0, a0 := f.a0, a1 := f.a1, a2 := f.a2 }

def State.withResp (s : State) (resp : Word) : State := { s with resp := resp }

def State.withMd5 (s : State) (c : Md5Context) : State := { s with md5 := c }

def State.withS256 (s : State) (c : Sha256Context) : State := { s with s256 := c }

def State.withS512 (s : State) (c : Sha512Context) : State := { s with s512 := c }

def State.withCc (s : State) (c : ChachaContext) : State := { s with cc := c }

def State.withMem (s : State) (m : Memory) : State := { s with mem := m }

def State.withInput (s : State) (input : List HostAction) : State := { s with input := input }

/-- The free values of this index are used up (log entry 7). -/
def State.nextFree (s : State) : State := { s with freeIndex := s.freeIndex + 1 }

/-! ### How a command ends (R14) -/

/-- The outcome of a command. -/
abbrev Result := Host.Outcome State Fault Refusal

/-- `complete OK`: RESP <- 0 (R14, R100). -/
def complete (s : State) : Result := .next (s.withResp responseOk)

/-- Taking an exception: the code goes to RESP, nothing else changes, control goes nowhere (R260, R264). There is
nothing to return from (R265): the next frame is accepted as after OK. -/
def raiseException (e : Exception) (s : State) : Result := .next (s.withResp (exceptionCode e))

/-! ### Preconditions the spec has a model refuse (93 U1 to U5) -/

/-- E_DATAADD and E_CALC need phase ACCUMULATING (R29; U1, U2). -/
def requireAccumulating (e : HashEngine) (phase : Phase) (k : Result) : Result :=
  match phase with
  | .accumulating => k
  | .uninitialized => .refused (.contextUninitialized e)
  | .finalized => .refused (.contextFinalized e)

/-- CHACHA20_ENCRYPT and CHACHA20_POSITIONSET need `CC.keyed` = 1 (R32; U3). -/
def requireKeyed (c : ChachaContext) (k : Result) : Result :=
  if c.keyed then k else .refused .chachaNotKeyed

/-- A command that names a buffer needs it valid (R62; U4). -/
def requireBuffer (pl : Platform) (p : Word) (n : Nat) (k : Result) : Result :=
  match bufferError pl p n with
  | none => k
  | some why => .refused (.invalidBuffer p n why)

/-- CHACHA20_ENCRYPT works in place or on disjoint ranges (R74; U5). -/
def requireOverlapAllowed (output message length : Word) (k : Result) : Result :=
  if overlapAllowed output message (wordLength length) then k
  else .refused (.partialOverlap output message length)

/-! ### Free values (R37, U7; log entry 7) -/

/-- `count` free elements, in the slots from `slot` on. -/
def freeVector (index slot count width : Nat) : Vector (BitVec width) count :=
  Vector.ofFn fun i => Config.freeBits index (slot + i.val) width

/-! ### The streaming shape of the hash engines -/

/-- One byte of E_DATAADD: it goes to `buf[fill]`, and a full block is compressed (R136). The new chaining value
and partial block. -/
def absorbByte {H : Type} {B : Nat} (compress : H → Vector Byte B → H) (fill : Nat) (b : Byte) (h : H)
    (buf : Vector Byte B) : H × Vector Byte B :=
  (if fill = B - 1 then compress h (buf.setIfInBounds fill b) else h, buf.setIfInBounds fill b)

/-- E_CALC's first block: the bytes below `fill`, then 0x80, then zeros (R137). -/
def padMarker {B : Nat} (buf : Vector Byte B) (fill : Nat) : Vector Byte B :=
  Vector.ofFn fun i => if i.val < fill then buf[i] else if i.val = fill then 0x80 else 0

/-- The length field in the last bytes of a block (R137, R168, R198). -/
def placeLength {B : Nat} (block : Vector Byte B) (field : List Byte) : Vector Byte B :=
  Vector.ofFn fun i =>
    if i.val < B - field.length then block[i] else field.getD (i.val - (B - field.length)) 0

/-- E_CALC's compressions: one if the length field fits after the marker, else two, the second of a fresh zero
block (R137). -/
def finishHash {H : Type} {B : Nat} (compress : H → Vector Byte B → H) (h : H) (buf : Vector Byte B) (fill : Nat)
    (field : List Byte) : H :=
  if B - (fill + 1) < field.length then
    compress (compress h (padMarker buf fill)) (placeLength (Vector.replicate B 0) field)
  else compress h (placeLength (padMarker buf fill) field)

end Sys2Proof.Machine
end

