-- ==== Sys2Proof/Machine/ChaCha20.lean ====
section
/-! DEFINITION. The ChaCha20 engine (43_chacha20.md): constants, keystream block function, counter, and the three
commands CHACHA20_KEYEXPAND, CHACHA20_ENCRYPT, CHACHA20_POSITIONSET. -/

namespace Sys2Proof.Machine

/-- SIGMA, the constant words of a 32-byte key (R220). -/
def chachaSigma : Vector Word 4 := #v[0x61707865, 0x3320646e, 0x79622d32, 0x6b206574]

/-- TAU, the constant words of a 16-byte key (R220). -/
def chachaTau : Vector Word 4 := #v[0x61707865, 0x3120646e, 0x79622d36, 0x6b206574]

/-- The values of the four words that a quarter-round has mixed. -/
structure QuarterWords where
  a : Word
  b : Word
  c : Word
  d : Word
  deriving DecidableEq, Repr

/-- Half a quarter-round: add, xor and rotate with the amounts r1 then r2 (R221). -/
def chachaHalfQuarter (r1 r2 : Nat) (q : QuarterWords) : QuarterWords :=
  let a := q.a + q.b
  let d := (q.d ^^^ a).rotateLeft r1
  let c := q.c + d
  let b := (q.b ^^^ c).rotateLeft r2
  { a := a, b := b, c := c, d := d }

/-- The four steps on four words, rotations 16, 12, 8, 7 (R221). -/
def chachaQuarterWords (q : QuarterWords) : QuarterWords := chachaHalfQuarter 8 7 (chachaHalfQuarter 16 12 q)

/-- QuarterRound(x, a, b, c, d) on four distinct indices of the working array (R221). -/
def chachaQuarterRound (x : Vector Word 16) (a b c d : Fin 16) : Vector Word 16 :=
  let q := chachaQuarterWords { a := x[a], b := x[b], c := x[c], d := x[d] }
  (((x.set a q.a).set b q.b).set c q.c).set d q.d

/-- The four column quarter-rounds (R222). -/
def chachaColumns (x : Vector Word 16) : Vector Word 16 :=
  chachaQuarterRound (chachaQuarterRound (chachaQuarterRound (chachaQuarterRound x 0 4 8 12) 1 5 9 13) 2 6 10 14)
    3 7 11 15

/-- The four diagonal quarter-rounds (R222). -/
def chachaDiagonals (x : Vector Word 16) : Vector Word 16 :=
  chachaQuarterRound (chachaQuarterRound (chachaQuarterRound (chachaQuarterRound x 0 5 10 15) 1 6 11 12) 2 7 8 13)
    3 4 9 14

/-- One double-round: columns, then diagonals (R222). -/
def chachaDoubleRound (x : Vector Word 16) : Vector Word 16 := chachaDiagonals (chachaColumns x)

/-- n double-rounds. -/
def chachaDoubleRounds : Nat → Vector Word 16 → Vector Word 16
  | 0, x => x
  | n + 1, x => chachaDoubleRounds n (chachaDoubleRound x)

/-- ChaCha20_Block(k): ten double-rounds, then the words of k are added back in (R223). -/
def chachaBlock (k : Vector Word 16) : Vector Word 16 := Vector.zipWith (· + ·) (chachaDoubleRounds 10 k) k

/-- KsByte(i): byte i of a keystream block, each word least significant byte first (R224). An index past 63 reads
a zero word; no reachable state has one (log entry 11). -/
def chachaKsByte (ks : Vector Word 16) (i : Nat) : Byte := leByte (ks.getD (i / 4) 0) (i % 4)

/-- CounterIncrement: word 12, carrying into word 13; the carry out of word 13 is dropped (R228). -/
def chachaCounterIncrement (key : Vector Word 16) : Vector Word 16 :=
  let stepped := key.set 12 (key[12] + 1)
  if stepped[12] = 0 then stepped.set 13 (stepped[13] + 1) else stepped

/-- The start of one byte of CHACHA20_ENCRYPT: an exhausted block is replaced by the next one (R226). -/
def chachaRefill (c : ChachaContext) : ChachaContext :=
  if c.off = 64 then
    { c with key := chachaCounterIncrement c.key, ks := chachaBlock (chachaCounterIncrement c.key), off := 0 }
  else c

/-- The keystream byte the next byte of CHACHA20_ENCRYPT uses (R226). -/
def chachaNextByte (c : ChachaContext) : Byte := chachaKsByte (chachaRefill c).ks (chachaRefill c).off.toNat

/-- The context after one byte of CHACHA20_ENCRYPT (R226). -/
def chachaAdvance (c : ChachaContext) : ChachaContext :=
  { chachaRefill c with off := (chachaRefill c).off + 1 }

/-- The context after n bytes of CHACHA20_ENCRYPT (R226). -/
def chachaAdvances : Nat → ChachaContext → ChachaContext
  | 0, c => c
  | n + 1, c => chachaAdvances n (chachaAdvance c)

/-- Buffer memory after n bytes of CHACHA20_ENCRYPT: byte by byte, `message[i]` is read and then `output[i]`
written (R226, R73). -/
def chachaCrypt : Nat → Nat → Nat → ChachaContext → Memory → Memory
  | _, _, 0, _, m => m
  | output, message, n + 1, c, m =>
    chachaCrypt (output + 1) (message + 1) n (chachaAdvance c) (m.write output (m.read message ^^^ chachaNextByte c))

/-- Word i of little-endian bytes (R225, R63). -/
def leWordAt (bytes : List Byte) (i : Nat) : Word :=
  le32 (bytes.getD (4 * i) 0) (bytes.getD (4 * i + 1) 0) (bytes.getD (4 * i + 2) 0) (bytes.getD (4 * i + 3) 0)

/-- The state matrix after key expansion (R225): constants by key length, key words (the first half repeated for a
16-byte key), counter 0, nonce words. -/
def chachaMatrix (keyLength : Byte) (kb nb : List Byte) : Vector Word 16 :=
  let const := if keyLength = 16 then chachaTau else chachaSigma
  let half := if keyLength = 32 then 4 else 0
  #v[const[0], const[1], const[2], const[3],
    leWordAt kb 0, leWordAt kb 1, leWordAt kb 2, leWordAt kb 3,
    leWordAt kb half, leWordAt kb (half + 1), leWordAt kb (half + 2), leWordAt kb (half + 3),
    0, 0, leWordAt nb 0, leWordAt nb 1]

/-- The context a successful CHACHA20_KEYEXPAND writes (R225). -/
def chachaFresh (key : Vector Word 16) : ChachaContext where
  key := key
  ks := chachaBlock key
  off := 0
  keyed := true

/-- The state matrix with the counter of a position (R227). -/
def chachaSeek (key : Vector Word 16) (position : BitVec 70) : Vector Word 16 :=
  (key.set 12 (positionCounterLow position)).set 13 (positionCounterHigh position)

/-- CHACHA20_KEYEXPAND nonce, key, keyLength (R225): the key length is checked before anything else; a wrong one
raises InvalidKeyLength, which reads and changes nothing (R261). -/
def execChacha20KeyExpand (nonce key : Word) (keyLength : Byte) (s : State) : Result :=
  if keyLengthValid keyLength then
    requireBuffer s.platform nonce nonceBytes <|
    requireBuffer s.platform key keyLength.toNat <|
    complete
      (s.withCc
        (chachaFresh
          (chachaMatrix keyLength (s.mem.readBytes (effectiveAddress key 0) keyLength.toNat)
            (s.mem.readBytes (effectiveAddress nonce 0) nonceBytes))))
  else raiseException .invalidKeyLength s

/-- CHACHA20_ENCRYPT output, message, length (R226). -/
def execChacha20Encrypt (output message length : Word) (s : State) : Result :=
  requireKeyed s.cc <|
  requireBuffer s.platform output (wordLength length) <|
  requireBuffer s.platform message (wordLength length) <|
  requireOverlapAllowed output message length <|
  complete
    ((s.withMem
        (chachaCrypt (effectiveAddress output 0) (effectiveAddress message 0) (wordLength length) s.cc s.mem)).withCc
      (chachaAdvances (wordLength length) s.cc))

/-- CHACHA20_POSITIONSET upper6, high32, low32 (R227): constants, key, nonce and `keyed` stay. -/
def execChacha20PositionSet (upper6 : Byte) (high32 low32 : Word) (s : State) : Result :=
  requireKeyed s.cc <|
  complete
    (s.withCc
      { s.cc with
        key := chachaSeek s.cc.key (streamPosition upper6 high32 low32)
        ks := chachaBlock (chachaSeek s.cc.key (streamPosition upper6 high32 low32))
        off := positionOffset (streamPosition upper6 high32 low32) })

end Sys2Proof.Machine
end

