-- ==== Sys2Proof/Machine/Md5.lean ====
section
/-! DEFINITION. The MD5 engine (40_md5.md): tables, compression, and the three commands MD5_INIT, MD5_DATAADD,
MD5_CALC. -/

namespace Sys2Proof.Machine

/-- MD5_IV (R130). -/
def md5Iv : Vector Word 4 := #v[0x67452301, 0xefcdab89, 0x98badcfe, 0x10325476]

/-- MD5_K (R131), in the rule's rows. -/
def md5K : List Word :=
  List.flatten
  [[0xd76aa478, 0xe8c7b756, 0x242070db, 0xc1bdceee],
   [0xf57c0faf, 0x4787c62a, 0xa8304613, 0xfd469501],
   [0x698098d8, 0x8b44f7af, 0xffff5bb1, 0x895cd7be],
   [0x6b901122, 0xfd987193, 0xa679438e, 0x49b40821],
   [0xf61e2562, 0xc040b340, 0x265e5a51, 0xe9b6c7aa],
   [0xd62f105d, 0x02441453, 0xd8a1e681, 0xe7d3fbc8],
   [0x21e1cde6, 0xc33707d6, 0xf4d50d87, 0x455a14ed],
   [0xa9e3e905, 0xfcefa3f8, 0x676f02d9, 0x8d2a4c8a],
   [0xfffa3942, 0x8771f681, 0x6d9d6122, 0xfde5380c],
   [0xa4beea44, 0x4bdecfa9, 0xf6bb4b60, 0xbebfbc70],
   [0x289b7ec6, 0xeaa127fa, 0xd4ef3085, 0x04881d05],
   [0xd9d4d039, 0xe6db99e5, 0x1fa27cf8, 0xc4ac5665],
   [0xf4292244, 0x432aff97, 0xab9423a7, 0xfc93a039],
   [0x655b59c3, 0x8f0ccc92, 0xffeff47d, 0x85845dd1],
   [0x6fa87e4f, 0xfe2ce6e0, 0xa3014314, 0x4e0811a1],
   [0xf7537e82, 0xbd3af235, 0x2ad7d2bb, 0xeb86d391]]

/-- MD5_S (R132): four amounts per phase of sixteen rounds, each list repeated four times. -/
def md5S (i : Nat) : Nat :=
  if i < 16 then [7, 12, 17, 22].getD (i % 4) 0
  else if i < 32 then [5, 9, 14, 20].getD (i % 4) 0
  else if i < 48 then [4, 11, 16, 23].getD (i % 4) 0
  else [6, 10, 15, 21].getD (i % 4) 0

/-- The round function: F, G, H, I by phase (R133). -/
def md5F (i : Nat) (b c d : Word) : Word :=
  if i < 16 then (b &&& c) ||| (~~~b &&& d)
  else if i < 32 then (d &&& b) ||| (~~~d &&& c)
  else if i < 48 then b ^^^ c ^^^ d
  else c ^^^ (b ||| ~~~d)

/-- The message index j(i): linear, then steps of 5, 3 and 7 (R133). -/
def md5Index (i : Nat) : Nat :=
  if i < 16 then i
  else if i < 32 then (5 * i + 1) % 16
  else if i < 48 then (3 * i + 5) % 16
  else 7 * i % 16

/-- The sixteen little-endian words X of a block (R134, R63). -/
def md5Words (block : Vector Byte 64) : Vector Word 16 :=
  Vector.ofFn fun j =>
    le32 block[4 * j.val] block[4 * j.val + 1] block[4 * j.val + 2] block[4 * j.val + 3]

/-- The working variables of a compression (R134, R35). -/
structure Md5Work where
  a : Word
  b : Word
  c : Word
  d : Word
  deriving DecidableEq, Repr

/-- Round i (R134): (a, b, c, d) <- (d, new_b, b, c). -/
def md5Round (x : Vector Word 16) (w : Md5Work) (i : Nat) : Md5Work :=
  let t := w.a + md5F i w.b w.c w.d + md5K.getD i 0 + x.getD (md5Index i) 0
  { a := w.d, b := w.b + t.rotateLeft (md5S i), c := w.b, d := w.c }

/-- The 64 rounds from the chaining value h (R134). -/
def md5Rounds (h : Vector Word 4) (block : Vector Byte 64) : Md5Work :=
  (List.range 64).foldl (md5Round (md5Words block)) { a := h[0], b := h[1], c := h[2], d := h[3] }

/-- MD5_Compress: the new chaining value (R134). -/
def md5Compress (h : Vector Word 4) (block : Vector Byte 64) : Vector Word 4 :=
  let w := md5Rounds h block
  #v[h[0] + w.a, h[1] + w.b, h[2] + w.c, h[3] + w.d]

/-- fill = MD5.total mod 64 (R28). -/
def md5Fill (c : Md5Context) : Nat := c.total.toNat % 64

/-- One byte of MD5_DATAADD (R136); the counter wraps modulo 2^32. -/
def md5AbsorbByte (c : Md5Context) (b : Byte) : Md5Context :=
  let r := absorbByte md5Compress (md5Fill c) b c.h c.buf
  { c with h := r.1, buf := r.2, total := c.total + 1 }

/-- The bytes of one MD5_DATAADD, in order (R136). -/
def md5Absorb (c : Md5Context) (bytes : List Byte) : Md5Context := bytes.foldl md5AbsorbByte c

/-- The length field: zext_64(total) << 3, least significant byte first (R137). -/
def md5LengthField (total : Word) : List Byte := leBytes (total.setWidth 64 <<< 3) 8

/-- The chaining value after MD5_CALC's one or two compressions (R137). -/
def md5Finish (c : Md5Context) : Vector Word 4 :=
  finishHash md5Compress c.h c.buf (md5Fill c) (md5LengthField c.total)

/-- The 16 digest bytes: h0 to h3, each little-endian (R137, R63). -/
def md5DigestOf (h : Vector Word 4) : List Byte := h.toList.flatMap fun w => leBytes w 4

/-- The context MD5_CALC leaves: FINALIZED, everything else a free value (R37). -/
def md5Exhausted (index : Nat) : Md5Context where
  h := freeVector index 0 4 32
  total := Config.freeBits index 8 32
  buf := freeVector index 16 64 8
  phase := .finalized

/-- The context MD5_INIT writes (R135). -/
def md5Fresh : Md5Context where
  h := md5Iv
  total := 0
  buf := Vector.replicate 64 0
  phase := .accumulating

/-- MD5_INIT (R135): accepted in every phase. -/
def execMd5Init (s : State) : Result := complete (s.withMd5 md5Fresh)

/-- MD5_DATAADD data, length (R136). -/
def execMd5DataAdd (data length : Word) (s : State) : Result :=
  requireAccumulating .md5 s.md5.phase <|
  requireBuffer s.platform data (md5Length length) <|
  complete (s.withMd5 (md5Absorb s.md5 (s.mem.readBytes (effectiveAddress data 0) (md5Length length))))

/-- MD5_CALC outDigest (R137). -/
def execMd5Calc (outDigest : Word) (s : State) : Result :=
  requireAccumulating .md5 s.md5.phase <|
  requireBuffer s.platform outDigest md5DigestBytes <|
  complete
    ((s.withMem (s.mem.writeBytes (effectiveAddress outDigest 0) (md5DigestOf (md5Finish s.md5)))).withMd5
      (md5Exhausted s.freeIndex)).nextFree

end Sys2Proof.Machine
end

