-- ==== Sys2Proof/Machine/Sha256.lean ====
section
/-! DEFINITION. The SHA-256 engine (41_sha256.md): tables, schedule, compression, and the three commands SHA256_INIT,
SHA256_DATAADD, SHA256_CALC, for SHA-224 and SHA-256. -/

namespace Sys2Proof.Machine

/-- IV256 (R160). -/
def sha256Iv256 : Vector Word 8 :=
  #v[0x6a09e667, 0xbb67ae85, 0x3c6ef372, 0xa54ff53a,
    0x510e527f, 0x9b05688c, 0x1f83d9ab, 0x5be0cd19]

/-- IV224 (R160). -/
def sha256Iv224 : Vector Word 8 :=
  #v[0xc1059ed8, 0x367cd507, 0x3070dd17, 0xf70e5939,
    0xffc00b31, 0x68581511, 0x64f98fa7, 0xbefa4fa4]

/-- The initial chaining value of a variant (R166). -/
def sha256Iv : Sha256Variant → Vector Word 8
  | .sha224 => sha256Iv224
  | .sha256 => sha256Iv256

/-- K256 (R161), in the rule's rows. -/
def sha256K : List Word :=
  List.flatten
  [[0x428a2f98, 0x71374491, 0xb5c0fbcf, 0xe9b5dba5, 0x3956c25b, 0x59f111f1, 0x923f82a4, 0xab1c5ed5],
   [0xd807aa98, 0x12835b01, 0x243185be, 0x550c7dc3, 0x72be5d74, 0x80deb1fe, 0x9bdc06a7, 0xc19bf174],
   [0xe49b69c1, 0xefbe4786, 0x0fc19dc6, 0x240ca1cc, 0x2de92c6f, 0x4a7484aa, 0x5cb0a9dc, 0x76f988da],
   [0x983e5152, 0xa831c66d, 0xb00327c8, 0xbf597fc7, 0xc6e00bf3, 0xd5a79147, 0x06ca6351, 0x14292967],
   [0x27b70a85, 0x2e1b2138, 0x4d2c6dfc, 0x53380d13, 0x650a7354, 0x766a0abb, 0x81c2c92e, 0x92722c85],
   [0xa2bfe8a1, 0xa81a664b, 0xc24b8b70, 0xc76c51a3, 0xd192e819, 0xd6990624, 0xf40e3585, 0x106aa070],
   [0x19a4c116, 0x1e376c08, 0x2748774c, 0x34b0bcb5, 0x391c0cb3, 0x4ed8aa4a, 0x5b9cca4f, 0x682e6ff3],
   [0x748f82ee, 0x78a5636f, 0x84c87814, 0x8cc70208, 0x90befffa, 0xa4506ceb, 0xbef9a3f7, 0xc67178f2]]

/-- Ch (R162, R192), at the word width of either engine. -/
def shaCh {n : Nat} (e f g : BitVec n) : BitVec n := (e &&& f) ^^^ (~~~e &&& g)

/-- Maj (R162, R192), at the word width of either engine. -/
def shaMaj {n : Nat} (a b c : BitVec n) : BitVec n := (a &&& b) ^^^ (a &&& c) ^^^ (b &&& c)

/-- The eight working variables of a compression (R164, R194, R35). -/
structure ShaWork (n : Nat) where
  (a b c d e f g h : BitVec n)
  deriving DecidableEq, Repr

/-- The role rotation of one round from its two temporaries (R164, R194). -/
def shaRotate {n : Nat} (t1 t2 : BitVec n) (w : ShaWork n) : ShaWork n where
  a := t1 + t2
  b := w.a
  c := w.b
  d := w.c
  e := w.d + t1
  f := w.e
  g := w.f
  h := w.g

/-- The working variables at the start of a compression (R164, R194). -/
def shaWorkOf {n : Nat} (h : Vector (BitVec n) 8) : ShaWork n :=
  ⟨h[0], h[1], h[2], h[3], h[4], h[5], h[6], h[7]⟩

/-- The working variables in the order of the chaining words (R164, R194). -/
def shaWorkWords {n : Nat} (w : ShaWork n) : Vector (BitVec n) 8 := #v[w.a, w.b, w.c, w.d, w.e, w.f, w.g, w.h]

/-- The additive output of a compression: each working variable onto its chaining word (R164, R194). -/
def shaAddWork {n : Nat} (h : Vector (BitVec n) 8) (w : ShaWork n) : Vector (BitVec n) 8 :=
  Vector.zipWith (· + ·) h (shaWorkWords w)

/-- Σ0 (R162). -/
def sha256BigSigma0 (x : Word) : Word := x.rotateRight 2 ^^^ x.rotateRight 13 ^^^ x.rotateRight 22

/-- Σ1 (R162). -/
def sha256BigSigma1 (x : Word) : Word := x.rotateRight 6 ^^^ x.rotateRight 11 ^^^ x.rotateRight 25

/-- σ0 (R162): the third term is a logical shift. -/
def sha256SmallSigma0 (x : Word) : Word := x.rotateRight 7 ^^^ x.rotateRight 18 ^^^ x >>> 3

/-- σ1 (R162): the third term is a logical shift. -/
def sha256SmallSigma1 (x : Word) : Word := x.rotateRight 17 ^^^ x.rotateRight 19 ^^^ x >>> 10

/-- W[0..15]: the sixteen big-endian words of a block (R163, R63). -/
def sha256Words (block : Vector Byte 64) : Vector Word 16 :=
  Vector.ofFn fun j =>
    be32 block[4 * j.val] block[4 * j.val + 1] block[4 * j.val + 2] block[4 * j.val + 3]

/-- W[t] from the words before it, the latest first: σ1(W[t-2]) + W[t-7] + σ0(W[t-15]) + W[t-16] (R163). -/
def sha256NextWord (before : List Word) : Word :=
  sha256SmallSigma1 (before.getD 1 0) + before.getD 6 0 + sha256SmallSigma0 (before.getD 14 0) + before.getD 15 0

/-- `n` further words of the schedule, the latest first (R163). -/
def sha256Extend : Nat → List Word → List Word
  | 0, before => before
  | n + 1, before => sha256Extend n (sha256NextWord before :: before)

/-- The full schedule W[0..63] (R163, R165). -/
def sha256Schedule (block : Vector Byte 64) : List Word :=
  (sha256Extend 48 (sha256Words block).toList.reverse).reverse

/-- Round t, given K256[t] and W[t] (R164). -/
def sha256Round (w : ShaWork 32) (kw : Word × Word) : ShaWork 32 :=
  shaRotate (w.h + sha256BigSigma1 w.e + shaCh w.e w.f w.g + kw.1 + kw.2) (sha256BigSigma0 w.a + shaMaj w.a w.b w.c) w

/-- The 64 rounds over a schedule (R164). -/
def sha256Rounds (h : Vector Word 8) (schedule : List Word) : ShaWork 32 :=
  (sha256K.zip schedule).foldl sha256Round (shaWorkOf h)

/-- SHA256_Compress: the new chaining value (R164). -/
def sha256Compress (h : Vector Word 8) (block : Vector Byte 64) : Vector Word 8 :=
  shaAddWork h (sha256Rounds h (sha256Schedule block))

/-- fill = S256.total mod 64 (R28). -/
def sha256Fill (c : Sha256Context) : Nat := c.total.toNat % 64

/-- One byte of SHA256_DATAADD (R167); the counter wraps modulo 2^32. -/
def sha256AbsorbByte (c : Sha256Context) (b : Byte) : Sha256Context :=
  let r := absorbByte sha256Compress (sha256Fill c) b c.h c.buf
  { c with h := r.1, buf := r.2, total := c.total + 1 }

/-- The bytes of one SHA256_DATAADD, in order (R167). -/
def sha256Absorb (c : Sha256Context) (bytes : List Byte) : Sha256Context := bytes.foldl sha256AbsorbByte c

/-- The length field: zext_64(total) << 3, most significant byte first (R168). -/
def sha256LengthField (total : Word) : List Byte := beBytes (total.setWidth 64 <<< 3) 8

/-- The chaining value after SHA256_CALC's one or two compressions (R168). -/
def sha256Finish (c : Sha256Context) : Vector Word 8 :=
  finishHash sha256Compress c.h c.buf (sha256Fill c) (sha256LengthField c.total)

/-- The digest bytes: the variant's first words, each big-endian (R168, R63). -/
def sha256DigestOf (variant : Sha256Variant) (h : Vector Word 8) : List Byte :=
  (h.toList.take (sha256DigestWords variant)).flatMap fun w => beBytes w 4

/-- The context SHA256_CALC leaves: FINALIZED, the variant kept, everything else a free value (R37). -/
def sha256Exhausted (variant : Sha256Variant) (index : Nat) : Sha256Context where
  h := freeVector index 0 8 32
  total := Config.freeBits index 8 32
  buf := freeVector index 16 64 8
  variant := variant
  phase := .finalized

/-- The context SHA256_INIT writes (R166). -/
def sha256Fresh (variant : Sha256Variant) : Sha256Context where
  h := sha256Iv variant
  total := 0
  buf := Vector.replicate 64 0
  variant := variant
  phase := .accumulating

/-- SHA256_INIT.variant (R166): accepted in every phase. -/
def execSha256Init (variant : Sha256Variant) (s : State) : Result := complete (s.withS256 (sha256Fresh variant))

/-- SHA256_DATAADD data, length (R167). -/
def execSha256DataAdd (data length : Word) (s : State) : Result :=
  requireAccumulating .sha256 s.s256.phase <|
  requireBuffer s.platform data (wordLength length) <|
  complete
    (s.withS256
      (sha256Absorb s.s256 (s.mem.readBytes (effectiveAddress data 0) (wordLength length))))

/-- SHA256_CALC outDigest (R168): 28 or 32 bytes are written. -/
def execSha256Calc (outDigest : Word) (s : State) : Result :=
  requireAccumulating .sha256 s.s256.phase <|
  requireBuffer s.platform outDigest (sha256DigestBytes s.s256.variant) <|
  complete
    ((s.withMem
        (s.mem.writeBytes (effectiveAddress outDigest 0) (sha256DigestOf s.s256.variant (sha256Finish s.s256)))).withS256
      (sha256Exhausted s.s256.variant s.freeIndex)).nextFree

end Sys2Proof.Machine
end

