-- ==== Sys2Proof/Machine/Sha512.lean ====
section
/-! DEFINITION. The SHA-512 engine (42_sha512.md): tables, schedule, compression, and the three commands SHA512_INIT,
SHA512_DATAADD, SHA512_CALC, for SHA-384 and SHA-512. -/

namespace Sys2Proof.Machine

/-- IV512 (R190). -/
def sha512Iv512 : Vector DWord 8 :=
  #v[0x6a09e667f3bcc908, 0xbb67ae8584caa73b, 0x3c6ef372fe94f82b, 0xa54ff53a5f1d36f1,
    0x510e527fade682d1, 0x9b05688c2b3e6c1f, 0x1f83d9abfb41bd6b, 0x5be0cd19137e2179]

/-- IV384 (R190). -/
def sha512Iv384 : Vector DWord 8 :=
  #v[0xcbbb9d5dc1059ed8, 0x629a292a367cd507, 0x9159015a3070dd17, 0x152fecd8f70e5939,
    0x67332667ffc00b31, 0x8eb44a8768581511, 0xdb0c2e0d64f98fa7, 0x47b5481dbefa4fa4]

/-- The initial chaining value of a variant (R196). -/
def sha512Iv : Sha512Variant → Vector DWord 8
  | .sha384 => sha512Iv384
  | .sha512 => sha512Iv512

/-- K512 (R191), in the rule's rows. -/
def sha512K : List DWord :=
  List.flatten
  [[0x428a2f98d728ae22, 0x7137449123ef65cd, 0xb5c0fbcfec4d3b2f, 0xe9b5dba58189dbbc],
   [0x3956c25bf348b538, 0x59f111f1b605d019, 0x923f82a4af194f9b, 0xab1c5ed5da6d8118],
   [0xd807aa98a3030242, 0x12835b0145706fbe, 0x243185be4ee4b28c, 0x550c7dc3d5ffb4e2],
   [0x72be5d74f27b896f, 0x80deb1fe3b1696b1, 0x9bdc06a725c71235, 0xc19bf174cf692694],
   [0xe49b69c19ef14ad2, 0xefbe4786384f25e3, 0x0fc19dc68b8cd5b5, 0x240ca1cc77ac9c65],
   [0x2de92c6f592b0275, 0x4a7484aa6ea6e483, 0x5cb0a9dcbd41fbd4, 0x76f988da831153b5],
   [0x983e5152ee66dfab, 0xa831c66d2db43210, 0xb00327c898fb213f, 0xbf597fc7beef0ee4],
   [0xc6e00bf33da88fc2, 0xd5a79147930aa725, 0x06ca6351e003826f, 0x142929670a0e6e70],
   [0x27b70a8546d22ffc, 0x2e1b21385c26c926, 0x4d2c6dfc5ac42aed, 0x53380d139d95b3df],
   [0x650a73548baf63de, 0x766a0abb3c77b2a8, 0x81c2c92e47edaee6, 0x92722c851482353b],
   [0xa2bfe8a14cf10364, 0xa81a664bbc423001, 0xc24b8b70d0f89791, 0xc76c51a30654be30],
   [0xd192e819d6ef5218, 0xd69906245565a910, 0xf40e35855771202a, 0x106aa07032bbd1b8],
   [0x19a4c116b8d2d0c8, 0x1e376c085141ab53, 0x2748774cdf8eeb99, 0x34b0bcb5e19b48a8],
   [0x391c0cb3c5c95a63, 0x4ed8aa4ae3418acb, 0x5b9cca4f7763e373, 0x682e6ff3d6b2b8a3],
   [0x748f82ee5defb2fc, 0x78a5636f43172f60, 0x84c87814a1f0ab72, 0x8cc702081a6439ec],
   [0x90befffa23631e28, 0xa4506cebde82bde9, 0xbef9a3f7b2c67915, 0xc67178f2e372532b],
   [0xca273eceea26619c, 0xd186b8c721c0c207, 0xeada7dd6cde0eb1e, 0xf57d4f7fee6ed178],
   [0x06f067aa72176fba, 0x0a637dc5a2c898a6, 0x113f9804bef90dae, 0x1b710b35131c471b],
   [0x28db77f523047d84, 0x32caab7b40c72493, 0x3c9ebe0a15c9bebc, 0x431d67c49c100d4c],
   [0x4cc5d4becb3e42b6, 0x597f299cfc657e2a, 0x5fcb6fab3ad6faec, 0x6c44198c4a475817]]

/-- Σ0 (R192). -/
def sha512BigSigma0 (x : DWord) : DWord := x.rotateRight 28 ^^^ x.rotateRight 34 ^^^ x.rotateRight 39

/-- Σ1 (R192). -/
def sha512BigSigma1 (x : DWord) : DWord := x.rotateRight 14 ^^^ x.rotateRight 18 ^^^ x.rotateRight 41

/-- σ0 (R192): the third term is a logical shift. -/
def sha512SmallSigma0 (x : DWord) : DWord := x.rotateRight 1 ^^^ x.rotateRight 8 ^^^ x >>> 7

/-- σ1 (R192): the third term is a logical shift. -/
def sha512SmallSigma1 (x : DWord) : DWord := x.rotateRight 19 ^^^ x.rotateRight 61 ^^^ x >>> 6

/-- W[0..15]: the sixteen big-endian words of a block (R193, R63). -/
def sha512Words (block : Vector Byte 128) : Vector DWord 16 :=
  Vector.ofFn fun j =>
    be64 block[8 * j.val] block[8 * j.val + 1] block[8 * j.val + 2] block[8 * j.val + 3] block[8 * j.val + 4] block[8 * j.val + 5] block[8 * j.val + 6] block[8 * j.val + 7]

/-- W[t] from the words before it, the latest first: σ1(W[t-2]) + W[t-7] + σ0(W[t-15]) + W[t-16] (R193). -/
def sha512NextWord (before : List DWord) : DWord :=
  sha512SmallSigma1 (before.getD 1 0) + before.getD 6 0 + sha512SmallSigma0 (before.getD 14 0) + before.getD 15 0

/-- `n` further words of the schedule, the latest first (R193). -/
def sha512Extend : Nat → List DWord → List DWord
  | 0, before => before
  | n + 1, before => sha512Extend n (sha512NextWord before :: before)

/-- The full schedule W[0..79] (R193, R195). -/
def sha512Schedule (block : Vector Byte 128) : List DWord :=
  (sha512Extend 64 (sha512Words block).toList.reverse).reverse

/-- Round t, given K512[t] and W[t] (R194). -/
def sha512Round (w : ShaWork 64) (kw : DWord × DWord) : ShaWork 64 :=
  shaRotate (w.h + sha512BigSigma1 w.e + shaCh w.e w.f w.g + kw.1 + kw.2) (sha512BigSigma0 w.a + shaMaj w.a w.b w.c) w

/-- The 80 rounds over a schedule (R194). -/
def sha512Rounds (h : Vector DWord 8) (schedule : List DWord) : ShaWork 64 :=
  (sha512K.zip schedule).foldl sha512Round (shaWorkOf h)

/-- SHA512_Compress: the new chaining value (R194). -/
def sha512Compress (h : Vector DWord 8) (block : Vector Byte 128) : Vector DWord 8 :=
  shaAddWork h (sha512Rounds h (sha512Schedule block))

/-- fill = S512.total mod 128 (R28). -/
def sha512Fill (c : Sha512Context) : Nat := c.total.toNat % 128

/-- trunc_CW: a counter of `bits` bits, in its 128-bit carrier (R197). -/
def truncCounter (bits : Nat) (v : BitVec 128) : BitVec 128 := (v.setWidth bits).setWidth 128

/-- One byte of SHA512_DATAADD (R197); the counter wraps modulo 2^bits, `bits` being SHA512_COUNTER_BITS. -/
def sha512AbsorbByte (bits : Nat) (c : Sha512Context) (b : Byte) : Sha512Context :=
  let r := absorbByte sha512Compress (sha512Fill c) b c.h c.buf
  { c with h := r.1, buf := r.2, total := truncCounter bits (c.total + 1) }

/-- The bytes of one SHA512_DATAADD, in order (R197). -/
def sha512Absorb (bits : Nat) (c : Sha512Context) (bytes : List Byte) : Sha512Context :=
  bytes.foldl (sha512AbsorbByte bits) c

/-- The length field: zext_128(total) << 3, most significant byte first (R198). -/
def sha512LengthField (total : BitVec 128) : List Byte := beBytes (total <<< 3) 16

/-- The chaining value after SHA512_CALC's one or two compressions (R198). -/
def sha512Finish (c : Sha512Context) : Vector DWord 8 :=
  finishHash sha512Compress c.h c.buf (sha512Fill c) (sha512LengthField c.total)

/-- The digest bytes: the variant's first words, each big-endian (R198, R63). -/
def sha512DigestOf (variant : Sha512Variant) (h : Vector DWord 8) : List Byte :=
  (h.toList.take (sha512DigestWords variant)).flatMap fun w => beBytes w 8

/-- The context SHA512_CALC leaves: FINALIZED, the variant kept, everything else a free value (R37). -/
def sha512Exhausted (bits : Nat) (variant : Sha512Variant) (index : Nat) : Sha512Context where
  h := freeVector index 0 8 64
  total := truncCounter bits (Config.freeBits index 8 128)
  buf := freeVector index 16 128 8
  variant := variant
  phase := .finalized

/-- The context SHA512_INIT writes (R196). -/
def sha512Fresh (variant : Sha512Variant) : Sha512Context where
  h := sha512Iv variant
  total := 0
  buf := Vector.replicate 128 0
  variant := variant
  phase := .accumulating

/-- SHA512_INIT.variant (R196): accepted in every phase. -/
def execSha512Init (variant : Sha512Variant) (s : State) : Result := complete (s.withS512 (sha512Fresh variant))

/-- SHA512_DATAADD data, length (R197). -/
def execSha512DataAdd (data length : Word) (s : State) : Result :=
  requireAccumulating .sha512 s.s512.phase <|
  requireBuffer s.platform data (wordLength length) <|
  complete
    (s.withS512
      (sha512Absorb s.platform.sha512CounterBits s.s512 (s.mem.readBytes (effectiveAddress data 0) (wordLength length))))

/-- SHA512_CALC outDigest (R198): 48 or 64 bytes are written. -/
def execSha512Calc (outDigest : Word) (s : State) : Result :=
  requireAccumulating .sha512 s.s512.phase <|
  requireBuffer s.platform outDigest (sha512DigestBytes s.s512.variant) <|
  complete
    ((s.withMem
        (s.mem.writeBytes (effectiveAddress outDigest 0) (sha512DigestOf s.s512.variant (sha512Finish s.s512)))).withS512
      (sha512Exhausted s.platform.sha512CounterBits s.s512.variant s.freeIndex)).nextFree

end Sys2Proof.Machine
end

