-- ==== Sys2Proof/Machine/Dispatch.lean ====
section
/-! DEFINITION. Each command to its meaning (R93), one arm per constructor. -/

namespace Sys2Proof.Machine

def exec (i : Instr) (s : State) : Host.Outcome State Fault Refusal :=
  match i with
  | .md5Init => Sys2Proof.Machine.execMd5Init s
  | .md5DataAdd data length => Sys2Proof.Machine.execMd5DataAdd data length s
  | .md5Calc outDigest => Sys2Proof.Machine.execMd5Calc outDigest s
  | .sha256Init variant => Sys2Proof.Machine.execSha256Init variant s
  | .sha256DataAdd data length => Sys2Proof.Machine.execSha256DataAdd data length s
  | .sha256Calc outDigest => Sys2Proof.Machine.execSha256Calc outDigest s
  | .sha512Init variant => Sys2Proof.Machine.execSha512Init variant s
  | .sha512DataAdd data length => Sys2Proof.Machine.execSha512DataAdd data length s
  | .sha512Calc outDigest => Sys2Proof.Machine.execSha512Calc outDigest s
  | .chacha20KeyExpand nonce key keyLength => Sys2Proof.Machine.execChacha20KeyExpand nonce key keyLength s
  | .chacha20Encrypt output message length => Sys2Proof.Machine.execChacha20Encrypt output message length s
  | .chacha20PositionSet upper6 high32 low32 => Sys2Proof.Machine.execChacha20PositionSet upper6 high32 low32 s

end Sys2Proof.Machine
end

