-- ==== Sys2Proof/Machine/Interface.lean ====
section
/-! DEFINITION. What each action of the host does to the machine (R7, R300): a frame is decoded and executed to
completion, a byte of buffer memory is written, or the block is reset. -/

namespace Sys2Proof.Machine

/-- A frame issued by the host: its words go to the frame registers (R21), decoding comes before everything else
(R97), a frame that encodes no command raises IllegalCommand (R262), any other runs its command. -/
def runFrame (f : Frame) (s : State) : Result :=
  match decode f with
  | .ok i => exec i (s.withFrame f)
  | .error _ => raiseException .illegalCommand (s.withFrame f)

/-- The host writes a byte of buffer memory between commands (R300); an address the platform does not have faults
(log entry 9). -/
def hostWriteByte (a : Word) (b : Byte) (s : State) : Result :=
  if validAddr s.platform a.toNat then .next (s.withMem (s.mem.write a.toNat b))
  else .fault (.hostWriteOutsideMemory a)

/-- Reset between commands (R290): the block takes the values of R36. Buffer memory (R291), the parameters and the
host's remaining actions are not the block's and stay, and so does the model's counter of free values (log entry
13). -/
def resetBlock (s : State) : State :=
  { State.reset with mem := s.mem, platform := s.platform, input := s.input, freeIndex := s.freeIndex }

/-- One action of the host. -/
def runAction : HostAction → State → Result
  | .issue f, s => runFrame f s
  | .writeByte a b, s => hostWriteByte a b s
  | .reset, s => .next (resetBlock s)

/-- The frame whose first `nbits` bits are those of `w`, the bits above them zero, numbered as the opcode table
numbers them (R90). -/
def frameOfTableWord (nbits w : Nat) : Frame := frameOfBits (BitVec.ofNat 128 (w % 2 ^ nbits))

end Sys2Proof.Machine
end

