-- ==== Sys2Proof/Machine/Step.lean ====
section
/-! DEFINITION. One step of a run (R300): the host's next action, taken whole. -/

namespace Sys2Proof.Machine

/-- The host's next action, taken off the list before it runs; with none left the block simply holds its state
(R271). -/
def step (s : State) : Host.Outcome State Fault Refusal :=
  match s.input with
  | [] => .next s
  | a :: rest => runAction a (s.withInput rest)

/-- `s` with a frame as the host's very next action, so that the next step decodes and runs it: the block fetches
nothing (R23), the host presents frames (R90). -/
def State.withFetchWord (s : State) (nbits w : Nat) : State :=
  s.withInput (.issue (frameOfTableWord nbits w) :: s.input)

end Sys2Proof.Machine
end

