-- ==== Sys2Proof/Safety.lean ====
section
/-! DEFINITION. What counts as a safe run, in the terms the claims use: valid buffers (R62), the invariant of the
state (R22, R31, R27, and the canonical form of memory), the engine a command addresses (R92), what the host can
observe (R22, R300), and admitted runs (93 part 1). -/

namespace Sys2Proof.Machine

/-- The buffer of n bytes at p is valid (R62 (a), (b), (c)). -/
def BufferValid (pl : Platform) (p : Word) (n : Nat) : Prop :=
  p ≠ 0 ∧ p.toNat + n ≤ 2 ^ 32 ∧ ∀ k < n, validAddr pl (p.toNat + k) = true

/-- The four engines (R1). -/
inductive Engine where
  | md5
  | sha256
  | sha512
  | chacha20
  deriving DecidableEq, Repr

/-- The one engine a command addresses (R92). -/
def engineOf : Instr → Engine
  | .md5Init => .md5
  | .md5DataAdd _ _ => .md5
  | .md5Calc _ => .md5
  | .sha256Init _ => .sha256
  | .sha256DataAdd _ _ => .sha256
  | .sha256Calc _ => .sha256
  | .sha512Init _ => .sha512
  | .sha512DataAdd _ _ => .sha512
  | .sha512Calc _ => .sha512
  | .chacha20KeyExpand _ _ _ => .chacha20
  | .chacha20Encrypt _ _ _ => .chacha20
  | .chacha20PositionSet _ _ _ => .chacha20

/-- The buffer a command writes, as first address and byte count (R75); a command that writes none has count 0. -/
def writtenBuffer (s : State) : Instr → Nat × Nat
  | .md5Init => (0, 0)
  | .md5DataAdd _ _ => (0, 0)
  | .md5Calc outDigest => (outDigest.toNat, md5DigestBytes)
  | .sha256Init _ => (0, 0)
  | .sha256DataAdd _ _ => (0, 0)
  | .sha256Calc outDigest => (outDigest.toNat, sha256DigestBytes s.s256.variant)
  | .sha512Init _ => (0, 0)
  | .sha512DataAdd _ _ => (0, 0)
  | .sha512Calc outDigest => (outDigest.toNat, sha512DigestBytes s.s512.variant)
  | .chacha20KeyExpand _ _ _ => (0, 0)
  | .chacha20Encrypt output _ length => (output.toNat, wordLength length)
  | .chacha20PositionSet _ _ _ => (0, 0)

/-- The constant words are sigma, or they are tau and the second half of the key words repeats the first (R220,
R225). -/
def chachaMatrixShape (key : Vector Word 16) : Prop :=
  (key[0] = 0x61707865 ∧ key[1] = 0x3320646e ∧ key[2] = 0x79622d32 ∧ key[3] = 0x6b206574) ∨
  ((key[0] = 0x61707865 ∧ key[1] = 0x3120646e ∧ key[2] = 0x79622d36 ∧ key[3] = 0x6b206574) ∧
    key[8] = key[4] ∧ key[9] = key[5] ∧ key[10] = key[6] ∧ key[11] = key[7])

/-- A keyed ChaCha20 context holds the keystream block of the counter in words 12 and 13 (R31), and a state matrix
of the shape of R225. -/
def chachaCoherent (c : ChachaContext) : Prop :=
  c.keyed = true → c.ks = chachaBlock c.key ∧ chachaMatrixShape c.key

/-- The invariant of the machine: memory in its canonical form and inside the 32-bit space, a legal response code
(R22), `off` in 0..64 and a coherent keystream block (R31), the SHA-512 counter inside its width (R27). -/
def State.Inv (s : State) : Prop :=
  s.mem.wf ∧ (∀ c ∈ s.mem, c.1 < 2 ^ 32) ∧ (s.resp = 0 ∨ s.resp = 1 ∨ s.resp = 2) ∧ s.cc.off.toNat ≤ 64 ∧
    chachaCoherent s.cc ∧ s.s512.total.toNat < 2 ^ s.platform.sha512CounterBits

/-- The keystream position 64 * (CC.key[13] : CC.key[12]) + CC.off, modulo 2^70 (R31, R230). -/
def keystreamPosition (c : ChachaContext) : BitVec 70 := (c.key[13] ++ c.key[12] ++ 0#6) + c.off.setWidth 70

/-- What the host can observe: RESP and buffer memory (R22, R33, R300). -/
def hostView (s : State) : Word × Memory := (s.resp, s.mem)

/-- The outcome as the host observes it: nothing where the run is not admitted. -/
def hostViewOf : Result → Option (Word × Memory)
  | .next s => some (hostView s)
  | .fault _ => none
  | .refused _ => none

/-- The outcome with the next state changed. -/
def mapNext (f : State → State) : Result → Result
  | .next s => .next (f s)
  | .fault r => .fault r
  | .refused r => .refused r

/-- A second command after the first, where the first completes. -/
def andThen (r : Result) (k : State → Result) : Result :=
  match r with
  | .next s => k s
  | .fault r => .fault r
  | .refused r => .refused r

/-- n steps of a run (R300). -/
def runSteps : Nat → State → Result
  | 0, s => .next s
  | n + 1, s => andThen (step s) (runSteps n)

/-- A run of n steps is admitted when the host keeps to what the spec defines: no step faults or is refused. -/
def admitted (n : Nat) (s : State) : Prop := ∃ t, runSteps n s = .next t

end Sys2Proof.Machine
end

