-- ==== Sys2Proof/Reference.lean ====
section
/-! DEFINITION. Second descriptions that claims compare the machine with, written without the machine's streaming
shape: one-shot hashing of a whole message (R136, R137, R167, R168, R197, R198), what a context that has absorbed
a message holds (R28), the rotating 16-word schedule window (R165, R195), the keystream as a function of the
position (R230), and which frames are illegal (R97). -/

namespace Sys2Proof.Machine

/-! ### Bytes of numbers -/

/-- Byte k of a number, counted from the least significant. -/
def refByte (v k : Nat) : Byte := BitVec.ofNat 8 (v / 256 ^ k)

/-- The number as `count` bytes, least significant first. -/
def refLittle (v count : Nat) : List Byte := (List.range count).map fun k => refByte v k

/-- The number as `count` bytes, most significant first. -/
def refBig (v count : Nat) : List Byte := (List.range count).map fun k => refByte v (count - 1 - k)

/-! ### One-shot hashing -/

/-- The whole blocks of a message, in order; a rest shorter than a block is left out. -/
def refBlocks (B : Nat) (m : List Byte) : List (Vector Byte B) :=
  (List.range (m.length / B)).map fun i => Vector.ofFn fun j => m.getD (B * i + j.val) 0

/-- A message with its padding: 0x80, the fewest zeros that fill the last block, the length field (R16). -/
def refPadded (B : Nat) (field m : List Byte) : List Byte :=
  m ++ 0x80 :: (List.replicate ((B - (m.length + 1 + field.length) % B) % B) 0 ++ field)

/-- The chaining value after the whole blocks of a message. -/
def refChain {H : Type} {B : Nat} (compress : H → Vector Byte B → H) (h : H) (m : List Byte) : H :=
  (refBlocks B m).foldl compress h

/-- The MD5 length field for a byte count: 8 times the count modulo 2^32, little-endian (R137, D13). -/
def refMd5Field (count : Nat) : List Byte := refLittle (8 * (count % 2 ^ 32)) 8

/-- The SHA-256 length field for a byte count, big-endian (R168, D13). -/
def refSha256Field (count : Nat) : List Byte := refBig (8 * (count % 2 ^ 32)) 8

/-- The SHA-512 length field for a byte count and a counter of `bits` bits, big-endian (R198, R199, D13). -/
def refSha512Field (bits count : Nat) : List Byte := refBig (8 * (count % 2 ^ bits)) 16

/-- The 16 bytes of an MD5 digest (R137). -/
def refMd5Emit (h : Vector Word 4) : List Byte := h.toList.flatMap fun w => refLittle w.toNat 4

/-- The digest bytes of the SHA-256 engine: 8 words, 7 for SHA-224 (R168). -/
def refSha256Emit (v : Sha256Variant) (h : Vector Word 8) : List Byte :=
  (h.toList.take (if v = .sha224 then 7 else 8)).flatMap fun w => refBig w.toNat 4

/-- The digest bytes of the SHA-512 engine: 8 words, 6 for SHA-384 (R198). -/
def refSha512Emit (v : Sha512Variant) (h : Vector DWord 8) : List Byte :=
  (h.toList.take (if v = .sha384 then 6 else 8)).flatMap fun w => refBig w.toNat 8

/-- MD5 of a whole message. -/
def refMd5 (m : List Byte) : List Byte :=
  refMd5Emit (refChain md5Compress md5Iv (refPadded 64 (refMd5Field m.length) m))

/-- SHA-224 or SHA-256 of a whole message. -/
def refSha256 (v : Sha256Variant) (m : List Byte) : List Byte :=
  refSha256Emit v (refChain sha256Compress (sha256Iv v) (refPadded 64 (refSha256Field m.length) m))

/-- SHA-384 or SHA-512 of a whole message, with a byte counter of `bits` bits. -/
def refSha512 (bits : Nat) (v : Sha512Variant) (m : List Byte) : List Byte :=
  refSha512Emit v (refChain sha512Compress (sha512Iv v) (refPadded 128 (refSha512Field bits m.length) m))

/-! ### What a context that has absorbed a message holds (R28) -/

/-- The chaining value is that of the message's whole blocks, and the partial block holds the rest. -/
def absorbed {H : Type} {B : Nat} (compress : H → Vector Byte B → H) (iv h : H) (buf : Vector Byte B)
    (m : List Byte) : Prop :=
  h = refChain compress iv m ∧
    ∀ i : Fin B, i.val < m.length % B → buf[i] = m.getD (B * (m.length / B) + i.val) 0

/-- An accumulating MD5 context that has absorbed m (R25, R28). -/
def md5Absorbed (c : Md5Context) (m : List Byte) : Prop :=
  c.phase = .accumulating ∧ c.total.toNat = m.length % 2 ^ 32 ∧ absorbed md5Compress md5Iv c.h c.buf m

/-- An accumulating SHA-256 context that has absorbed m (R26, R28). -/
def sha256Absorbed (c : Sha256Context) (m : List Byte) : Prop :=
  c.phase = .accumulating ∧ c.total.toNat = m.length % 2 ^ 32 ∧
    absorbed sha256Compress (sha256Iv c.variant) c.h c.buf m

/-- An accumulating SHA-512 context that has absorbed m, with a counter of `bits` bits (R27, R28). -/
def sha512Absorbed (bits : Nat) (c : Sha512Context) (m : List Byte) : Prop :=
  c.phase = .accumulating ∧ c.total.toNat = m.length % 2 ^ bits ∧
    absorbed sha512Compress (sha512Iv c.variant) c.h c.buf m

/-! ### The rotating 16-word window (R165, R195) -/

/-- SHA-256 rounds t, t+1, ... over a window that holds W[t] at index t mod 16, overwriting W[t-16] (R165). -/
def sha256WindowRounds : Nat → Nat → Vector Word 16 → ShaWork 32 → ShaWork 32
  | 0, _, _, w => w
  | n + 1, t, win, w =>
    let now := win.getD (t % 16) 0
    let fresh := if t < 16 then now else
      sha256SmallSigma1 (win.getD ((t - 2) % 16) 0) + win.getD ((t - 7) % 16) 0 +
        sha256SmallSigma0 (win.getD ((t - 15) % 16) 0) + now
    sha256WindowRounds n (t + 1) (win.setIfInBounds (t % 16) fresh) (sha256Round w (sha256K.getD t 0, fresh))

/-- SHA-256 compression in window mode (R165). -/
def sha256WindowCompress (h : Vector Word 8) (block : Vector Byte 64) : Vector Word 8 :=
  shaAddWork h (sha256WindowRounds 64 0 (sha256Words block) (shaWorkOf h))

/-- SHA-512 rounds t, t+1, ... over a rotating window (R195). -/
def sha512WindowRounds : Nat → Nat → Vector DWord 16 → ShaWork 64 → ShaWork 64
  | 0, _, _, w => w
  | n + 1, t, win, w =>
    let now := win.getD (t % 16) 0
    let fresh := if t < 16 then now else
      sha512SmallSigma1 (win.getD ((t - 2) % 16) 0) + win.getD ((t - 7) % 16) 0 +
        sha512SmallSigma0 (win.getD ((t - 15) % 16) 0) + now
    sha512WindowRounds n (t + 1) (win.setIfInBounds (t % 16) fresh) (sha512Round w (sha512K.getD t 0, fresh))

/-- SHA-512 compression in window mode (R195). -/
def sha512WindowCompress (h : Vector DWord 8) (block : Vector Byte 128) : Vector DWord 8 :=
  shaAddWork h (sha512WindowRounds 80 0 (sha512Words block) (shaWorkOf h))

/-! ### The keystream as a function of the position (R230) -/

/-- KS(P): byte P mod 64 of the block of the counter P / 64 (R230). -/
def keystreamAt (key : Vector Word 16) (p : BitVec 70) : Byte :=
  let counter := p.toNat / 64
  let block := chachaBlock
    ((key.set 12 (BitVec.ofNat 32 counter)).set 13 (BitVec.ofNat 32 (counter / 2 ^ 32)))
  refByte (block.getD (p.toNat % 64 / 4) 0).toNat (p.toNat % 4)

/-! ### Illegal frames (R97) -/

/-- The twelve opcodes (R93). -/
def refOpcodes : List Nat := [0x00, 0x01, 0x02, 0x10, 0x11, 0x12, 0x20, 0x21, 0x22, 0x30, 0x31, 0x32]

/-- How many values of MOD, from 0 up, an opcode allows (R94). -/
def refModLimit (opcode : Nat) : Nat :=
  if opcode = 0x10 ∨ opcode = 0x20 then 2
  else if opcode = 0x30 then 256
  else if opcode = 0x32 then 64
  else 1

/-- The frames that encode no command: RSV not zero (a), an opcode outside the map (b), a MOD the opcode does not
allow, or an MD5_DATAADD length above 16 bits (c) (R97). -/
def refIllegal (f : Frame) : Prop :=
  f.w0.toNat / 2 ^ 16 ≠ 0 ∨ f.w0.toNat % 256 ∉ refOpcodes ∨
    refModLimit (f.w0.toNat % 256) ≤ f.w0.toNat / 256 % 256 ∨
    (f.w0.toNat % 256 = 0x01 ∧ f.a1.toNat / 2 ^ 16 ≠ 0)

/-! ### Words of memory, order of quarter-rounds, responses and phases -/

/-- The little-endian value of the four bytes from address a on (R15, R63). -/
def refLittleWord (m : Memory) (a : Nat) : Nat :=
  (m.read a).toNat + 256 * (m.read (a + 1)).toNat + 256 ^ 2 * (m.read (a + 2)).toNat +
    256 ^ 3 * (m.read (a + 3)).toNat

/-- A quarter-round on a quadruple of indices (R222). -/
def refQuarter (x : Vector Word 16) (q : Fin 16 × Fin 16 × Fin 16 × Fin 16) : Vector Word 16 :=
  chachaQuarterRound x q.1 q.2.1 q.2.2.1 q.2.2.2

/-- The response of a command that is not refused (R100, R260). -/
def refResponse : Instr → Word
  | .md5Init => 0
  | .md5DataAdd _ _ => 0
  | .md5Calc _ => 0
  | .sha256Init _ => 0
  | .sha256DataAdd _ _ => 0
  | .sha256Calc _ => 0
  | .sha512Init _ => 0
  | .sha512DataAdd _ _ => 0
  | .sha512Calc _ => 0
  | .chacha20KeyExpand _ _ keyLength => if keyLength.toNat = 16 ∨ keyLength.toNat = 32 then 0 else 1
  | .chacha20Encrypt _ _ _ => 0
  | .chacha20PositionSet _ _ _ => 0

/-- The phases of the MD5, SHA-256 and SHA-512 contexts after a command that completes (R29). -/
def refPhases (s : State) : Instr → Phase × Phase × Phase
  | .md5Init => (.accumulating, s.s256.phase, s.s512.phase)
  | .md5DataAdd _ _ => (.accumulating, s.s256.phase, s.s512.phase)
  | .md5Calc _ => (.finalized, s.s256.phase, s.s512.phase)
  | .sha256Init _ => (s.md5.phase, .accumulating, s.s512.phase)
  | .sha256DataAdd _ _ => (s.md5.phase, .accumulating, s.s512.phase)
  | .sha256Calc _ => (s.md5.phase, .finalized, s.s512.phase)
  | .sha512Init _ => (s.md5.phase, s.s256.phase, .accumulating)
  | .sha512DataAdd _ _ => (s.md5.phase, s.s256.phase, .accumulating)
  | .sha512Calc _ => (s.md5.phase, s.s256.phase, .finalized)
  | .chacha20KeyExpand _ _ _ => (s.md5.phase, s.s256.phase, s.s512.phase)
  | .chacha20Encrypt _ _ _ => (s.md5.phase, s.s256.phase, s.s512.phase)
  | .chacha20PositionSet _ _ _ => (s.md5.phase, s.s256.phase, s.s512.phase)

/-! ### Uses the spec leaves undefined (93 U1 to U5) -/

/-- `output` and `message` are the same buffer or do not overlap (R74). -/
def refOverlapAllowed (output message : Word) (n : Nat) : Prop :=
  output = message ∨ output.toNat + n ≤ message.toNat ∨ message.toNat + n ≤ output.toNat

/-- The uses a command's rule calls undefined: a hash context that is not accumulating (U1, U2), a ChaCha20 context
without a key (U3), an invalid buffer (U4), a partial overlap (U5). -/
def refUndefined (s : State) : Instr → Prop
  | .md5Init => False
  | .md5DataAdd data length =>
      s.md5.phase ≠ .accumulating ∨ ¬ BufferValid s.platform data (length.toNat % 65536)
  | .md5Calc outDigest => s.md5.phase ≠ .accumulating ∨ ¬ BufferValid s.platform outDigest 16
  | .sha256Init _ => False
  | .sha256DataAdd data length => s.s256.phase ≠ .accumulating ∨ ¬ BufferValid s.platform data length.toNat
  | .sha256Calc outDigest =>
      s.s256.phase ≠ .accumulating ∨
        ¬ BufferValid s.platform outDigest (if s.s256.variant = .sha224 then 28 else 32)
  | .sha512Init _ => False
  | .sha512DataAdd data length => s.s512.phase ≠ .accumulating ∨ ¬ BufferValid s.platform data length.toNat
  | .sha512Calc outDigest =>
      s.s512.phase ≠ .accumulating ∨
        ¬ BufferValid s.platform outDigest (if s.s512.variant = .sha384 then 48 else 64)
  | .chacha20KeyExpand nonce key keyLength =>
      (keyLength = 16 ∨ keyLength = 32) ∧
        (¬ BufferValid s.platform nonce 8 ∨ ¬ BufferValid s.platform key keyLength.toNat)
  | .chacha20Encrypt output message length =>
      s.cc.keyed = false ∨ ¬ BufferValid s.platform output length.toNat ∨
        ¬ BufferValid s.platform message length.toNat ∨ ¬ refOverlapAllowed output message length.toNat
  | .chacha20PositionSet _ _ _ => s.cc.keyed = false

end Sys2Proof.Machine
end

