-- ==== Sys2Proof/Certificates/Slice0/Obligations.lean ====
section
/-! DEFINITION. The statements for the provers, each from the numbered rules of spec/. They quantify over all states,
hence over all choices of `ValidAddr` and of SHA512_COUNTER_BITS (`s.platform`). A statement about an E_CALC says
nothing of what it leaves in `h`, `total` and `buf` (R37). -/

open Sys2Proof Sys2Proof.Machine

/-! ### Encoding (30_encoding.md) -/

/-- Decoding an encoded well-formed command gives it back, at every value of every operand (R91, R93, R94, R97). -/
def Obligations.DecodeOfEncode : Prop :=
  ∀ i : Instr, i.wellFormed = true → decode (encode i) = .ok i

/-- The worked encodings of R108: each assembly line is its frame, both ways; the failing key length ends with RESP
1; the four illegal rows encode nothing, whatever the operand words marked "any" hold. -/
def Obligations.WorkedEncodings : Prop :=
  (∀ p ∈
      [(Instr.md5Init, Frame.mk 0x00000000 0 0 0),
        (.md5DataAdd 0x1000 3, .mk 0x00000001 0x00001000 0x00000003 0),
        (.md5Calc 0x2000, .mk 0x00000002 0x00002000 0 0),
        (.sha256Init .sha224, .mk 0x00000010 0 0 0),
        (.sha256Init .sha256, .mk 0x00000110 0 0 0),
        (.sha512Init .sha384, .mk 0x00000020 0 0 0),
        (.sha512Init .sha512, .mk 0x00000120 0 0 0),
        (.sha512DataAdd 0x1000 200, .mk 0x00000021 0x00001000 0x000000C8 0),
        (.chacha20KeyExpand 0x3000 0x3100 32, .mk 0x00002030 0x00003000 0x00003100 0),
        (.chacha20KeyExpand 0x3000 0x3100 16, .mk 0x00001030 0x00003000 0x00003100 0),
        (.chacha20KeyExpand 0x3000 0x3100 33, .mk 0x00002130 0x00003000 0x00003100 0),
        (.chacha20Encrypt 0x5000 0x4000 65, .mk 0x00000031 0x00005000 0x00004000 0x00000041),
        (.chacha20PositionSet 0 0 1000000, .mk 0x00000032 0x00000000 0x000F4240 0),
        (.chacha20PositionSet 0x3F 0xFFFFFFFF 0xFFFFFFC0, .mk 0x00003F32 0xFFFFFFFF 0xFFFFFFC0 0)],
      encode p.1 = p.2 ∧ decode p.2 = .ok p.1) ∧
    (∀ s : State, exec (.chacha20KeyExpand 0x3000 0x3100 33) s = .next { s with resp := 1 }) ∧
    ∀ a0 a1 a2 : Word,
      (∃ e, decode (.mk 0x00000003 a0 a1 a2) = .error e) ∧ (∃ e, decode (.mk 0x00000210 a0 a1 a2) = .error e) ∧
        (∃ e, decode (.mk 0x00000001 a0 0x00010000 a2) = .error e) ∧
        ∃ e, decode (.mk 0x00010000 a0 a1 a2) = .error e

/-- The decoder refuses exactly the frames of R97 (a), (b), (c). -/
def Obligations.DecodeRefusesExactlyIllegalFrames : Prop :=
  ∀ f : Frame, (∃ e, decode f = .error e) ↔ refIllegal f

/-- What a frame decodes to is well formed, and encoding it gives the frame back with the operand words it ignores
set to zero (R91, R93, R97 (d)). -/
def Obligations.DecodedCommandReencodes : Prop :=
  ∀ (f : Frame) (i : Instr), decode f = .ok i →
    i.wellFormed = true ∧
      encode i =
        { w0 := f.w0
          a0 := if 1 ≤ operandWords i then f.a0 else 0
          a1 := if 2 ≤ operandWords i then f.a1 else 0
          a2 := if 3 ≤ operandWords i then f.a2 else 0 }

/-- Operand words a command does not use are ignored, whatever they hold (R97 (d)). -/
def Obligations.UnusedOperandWordsIgnored : Prop :=
  ∀ (f g : Frame) (i : Instr), decode f = .ok i → g.w0 = f.w0 → (1 ≤ operandWords i → g.a0 = f.a0) →
    (2 ≤ operandWords i → g.a1 = f.a1) → (3 ≤ operandWords i → g.a2 = f.a2) → decode g = .ok i

/-! ### Steps and reset (00_scope.md, 70_reset_and_hazards.md) -/

/-- A step whose next action is a frame that decodes to a command runs that command, with the frame in the frame
registers and the action consumed (R21, R90, R97 (e)). -/
def Obligations.StepRunsDecodedFrame : Prop :=
  ∀ (s : State) (f : Frame) (rest : List HostAction) (i : Instr),
    s.input = .issue f :: rest → decode f = .ok i →
      step s = exec i { s with w0 := f.w0, a0 := f.a0, a1 := f.a1, a2 := f.a2, input := rest }

/-- A frame that encodes no command raises IllegalCommand: RESP is 2, the frame stays in its registers, no context
and no byte of memory changes (R262). -/
def Obligations.IllegalFrameRaisesIllegalCommand : Prop :=
  ∀ (s : State) (f : Frame) (rest : List HostAction),
    s.input = .issue f :: rest → refIllegal f →
      step s = .next { s with w0 := f.w0, a0 := f.a0, a1 := f.a1, a2 := f.a2, resp := 2, input := rest }

/-- With no action of the host left, a step changes nothing: between commands the block simply holds its state
(R271). That the host's actions are a list in the state is the model's choice (log entry 2). -/
def Obligations.IdleBlockHoldsItsState : Prop :=
  ∀ s : State, s.input = [] → step s = .next s

/-- A reset leaves the values R36 gives, and does not touch buffer memory or the parameters (R290, R291); of the
elements R36 leaves unspecified nothing is said. -/
def Obligations.ResetActionGivesResetValues : Prop :=
  ∀ (s : State) (rest : List HostAction), s.input = .reset :: rest →
    ∃ t, step s = .next t ∧ t.resp = 0 ∧ t.md5.phase = .uninitialized ∧ t.s256.phase = .uninitialized ∧
      t.s512.phase = .uninitialized ∧ t.cc.keyed = false ∧ t.mem = s.mem ∧ t.platform = s.platform ∧ t.input = rest

/-- The values the spec gives for the state after reset (R36, and R9 for SHA512_COUNTER_BITS). -/
def Obligations.ResetStateValues : Prop :=
  State.reset.resp = 0 ∧ State.reset.md5.phase = .uninitialized ∧ State.reset.s256.phase = .uninitialized ∧
    State.reset.s512.phase = .uninitialized ∧ State.reset.cc.keyed = false ∧
    State.reset.platform.sha512CounterBits = 64

/-- The host writes a byte of valid memory: that byte changes, no other does, nothing else of the state does (R300,
R65); elsewhere the step faults, which is the model's choice (log entry 9). -/
def Obligations.HostWriteAction : Prop :=
  ∀ (s : State) (a : Word) (b : Byte) (rest : List HostAction), s.input = .writeByte a b :: rest →
    (validAddr s.platform a.toNat = true →
      ∃ m, step s = .next { s with mem := m, input := rest } ∧ m.read a.toNat = b ∧
        ∀ x, x ≠ a.toNat → m.read x = s.mem.read x) ∧
    (validAddr s.platform a.toNat = false → step s = .fault (.hostWriteOutsideMemory a))

/-! ### E_INIT -/

/-- MD5_INIT: its encoding, whatever the operand words hold, and its result in any state and phase (R135). -/
def Obligations.Md5InitResult : Prop :=
  (∀ a0 a1 a2 : Word, decode (.mk 0x00000000 a0 a1 a2) = .ok .md5Init) ∧
  ∀ s : State,
    exec .md5Init s =
      .next
        { s with
          md5 :=
            { h := #v[0x67452301, 0xefcdab89, 0x98badcfe, 0x10325476]
              total := 0
              buf := Vector.replicate 64 0
              phase := .accumulating }
          resp := 0 }

/-- SHA256_INIT of either variant: its encodings, and its result in any state and phase (R166, R160). -/
def Obligations.Sha256InitResult : Prop :=
  (∀ a0 a1 a2 : Word, decode (.mk 0x00000010 a0 a1 a2) = .ok (.sha256Init .sha224) ∧
    decode (.mk 0x00000110 a0 a1 a2) = .ok (.sha256Init .sha256)) ∧
  ∀ (v : Sha256Variant) (s : State),
    exec (.sha256Init v) s =
      .next
        { s with
          s256 :=
            { h :=
                if v = .sha224 then
                  #v[0xc1059ed8, 0x367cd507, 0x3070dd17, 0xf70e5939, 0xffc00b31, 0x68581511, 0x64f98fa7, 0xbefa4fa4]
                else
                  #v[0x6a09e667, 0xbb67ae85, 0x3c6ef372, 0xa54ff53a, 0x510e527f, 0x9b05688c, 0x1f83d9ab, 0x5be0cd19]
              total := 0
              buf := Vector.replicate 64 0
              variant := v
              phase := .accumulating }
          resp := 0 }

/-- SHA512_INIT of either variant: its encodings, and its result in any state and phase (R196, R190). -/
def Obligations.Sha512InitResult : Prop :=
  (∀ a0 a1 a2 : Word, decode (.mk 0x00000020 a0 a1 a2) = .ok (.sha512Init .sha384) ∧
    decode (.mk 0x00000120 a0 a1 a2) = .ok (.sha512Init .sha512)) ∧
  ∀ (v : Sha512Variant) (s : State),
    exec (.sha512Init v) s =
      .next
        { s with
          s512 :=
            { h :=
                if v = .sha384 then
                  #v[0xcbbb9d5dc1059ed8, 0x629a292a367cd507, 0x9159015a3070dd17, 0x152fecd8f70e5939,
                    0x67332667ffc00b31, 0x8eb44a8768581511, 0xdb0c2e0d64f98fa7, 0x47b5481dbefa4fa4]
                else
                  #v[0x6a09e667f3bcc908, 0xbb67ae8584caa73b, 0x3c6ef372fe94f82b, 0xa54ff53a5f1d36f1,
                    0x510e527fade682d1, 0x9b05688c2b3e6c1f, 0x1f83d9abfb41bd6b, 0x5be0cd19137e2179]
              total := 0
              buf := Vector.replicate 128 0
              variant := v
              phase := .accumulating }
          resp := 0 }

/-! ### E_DATAADD -/

/-- MD5_DATAADD of one byte: it goes to buf[fill], the counter steps modulo 2^32, and the block is compressed exactly
when the byte fills it (R136). -/
def Obligations.Md5DataAddOneByte : Prop :=
  ∀ (s : State) (data : Word), s.md5.phase = .accumulating → BufferValid s.platform data 1 →
    exec (.md5DataAdd data 1) s =
      .next
        { s with
          md5 :=
            let fill := s.md5.total.toNat % 64
            let buf := s.md5.buf.setIfInBounds fill (s.mem.read data.toNat)
            { h := if fill = 63 then md5Compress s.md5.h buf else s.md5.h
              total := BitVec.ofNat 32 (s.md5.total.toNat + 1)
              buf := buf
              phase := .accumulating }
          resp := 0 }

/-- SHA256_DATAADD of one byte (R167). -/
def Obligations.Sha256DataAddOneByte : Prop :=
  ∀ (s : State) (data : Word), s.s256.phase = .accumulating → BufferValid s.platform data 1 →
    exec (.sha256DataAdd data 1) s =
      .next
        { s with
          s256 :=
            let fill := s.s256.total.toNat % 64
            let buf := s.s256.buf.setIfInBounds fill (s.mem.read data.toNat)
            { h := if fill = 63 then sha256Compress s.s256.h buf else s.s256.h
              total := BitVec.ofNat 32 (s.s256.total.toNat + 1)
              buf := buf
              variant := s.s256.variant
              phase := .accumulating }
          resp := 0 }

/-- SHA512_DATAADD of one byte, with a counter of any width (R197). -/
def Obligations.Sha512DataAddOneByte : Prop :=
  ∀ (s : State) (data : Word), s.s512.phase = .accumulating → BufferValid s.platform data 1 →
    exec (.sha512DataAdd data 1) s =
      .next
        { s with
          s512 :=
            let fill := s.s512.total.toNat % 128
            let buf := s.s512.buf.setIfInBounds fill (s.mem.read data.toNat)
            { h := if fill = 127 then sha512Compress s.s512.h buf else s.s512.h
              total := BitVec.ofNat 128 ((s.s512.total.toNat + 1) % 2 ^ s.platform.sha512CounterBits)
              buf := buf
              variant := s.s512.variant
              phase := .accumulating }
          resp := 0 }

/-- A command of length zero reads and changes nothing but RESP, but its pointers must not be 0 (R136 (a), R167, R197,
R226 (a); D19, D20). -/
def Obligations.ZeroLengthChangesOnlyResp : Prop :=
  ∀ (s : State) (p q : Word), p ≠ 0 → q ≠ 0 →
    (s.md5.phase = .accumulating → exec (.md5DataAdd p 0) s = .next { s with resp := 0 }) ∧
      (s.s256.phase = .accumulating → exec (.sha256DataAdd p 0) s = .next { s with resp := 0 }) ∧
      (s.s512.phase = .accumulating → exec (.sha512DataAdd p 0) s = .next { s with resp := 0 }) ∧
      (s.cc.keyed = true → exec (.chacha20Encrypt p q 0) s = .next { s with resp := 0 })

/-- Adding n + k bytes is adding n and then k, whatever the split and in whatever phase: the outcome is the same state
or the same refusal (R136 (d), R167, R197). -/
def Obligations.DataAddSplitsAnywhere : Prop :=
  ∀ (s : State) (data : Word) (n k : Nat), 0 < k → BufferValid s.platform data (n + k) →
    (n + k ≤ 65535 →
      exec (.md5DataAdd data (BitVec.ofNat 32 (n + k))) s =
        andThen (exec (.md5DataAdd data (BitVec.ofNat 32 n)) s)
          (exec (.md5DataAdd (data + BitVec.ofNat 32 n) (BitVec.ofNat 32 k)))) ∧
    exec (.sha256DataAdd data (BitVec.ofNat 32 (n + k))) s =
      andThen (exec (.sha256DataAdd data (BitVec.ofNat 32 n)) s)
        (exec (.sha256DataAdd (data + BitVec.ofNat 32 n) (BitVec.ofNat 32 k))) ∧
    exec (.sha512DataAdd data (BitVec.ofNat 32 (n + k))) s =
      andThen (exec (.sha512DataAdd data (BitVec.ofNat 32 n)) s)
        (exec (.sha512DataAdd (data + BitVec.ofNat 32 n) (BitVec.ofNat 32 k)))

/-- MD5_DATAADD completes for every valid buffer in phase ACCUMULATING, counts its bytes modulo 2^32, stays in the
phase, and changes nothing outside the MD5 context and RESP (R136, R92). -/
def Obligations.Md5DataAddCompletes : Prop :=
  ∀ (s : State) (data length : Word), s.md5.phase = .accumulating →
    BufferValid s.platform data (length.toNat % 65536) →
    ∃ c : Md5Context, exec (.md5DataAdd data length) s = .next { s with md5 := c, resp := 0 } ∧
      c.total = s.md5.total + BitVec.ofNat 32 (length.toNat % 65536) ∧ c.phase = .accumulating

/-- SHA256_DATAADD completes likewise, and keeps the variant (R167, R26, R92). -/
def Obligations.Sha256DataAddCompletes : Prop :=
  ∀ (s : State) (data length : Word), s.s256.phase = .accumulating →
    BufferValid s.platform data length.toNat →
    ∃ c : Sha256Context, exec (.sha256DataAdd data length) s = .next { s with s256 := c, resp := 0 } ∧
      c.total = s.s256.total + length ∧ c.phase = .accumulating ∧ c.variant = s.s256.variant

/-- SHA512_DATAADD completes likewise; the counter counts modulo 2^SHA512_COUNTER_BITS when it starts inside its width
(R197, R27, R92). -/
def Obligations.Sha512DataAddCompletes : Prop :=
  ∀ (s : State) (data length : Word), s.s512.phase = .accumulating →
    BufferValid s.platform data length.toNat →
    ∃ c : Sha512Context, exec (.sha512DataAdd data length) s = .next { s with s512 := c, resp := 0 } ∧
      c.phase = .accumulating ∧ c.variant = s.s512.variant ∧
      (s.platform.sha512CounterBits ≤ 128 → s.s512.total.toNat < 2 ^ s.platform.sha512CounterBits →
        c.total.toNat = (s.s512.total.toNat + length.toNat) % 2 ^ s.platform.sha512CounterBits)

/-! ### E_CALC -/

/-- MD5_CALC pads the partial block and compresses once or twice, writes the 16 digest bytes, ends FINALIZED, and
changes nothing else: no other byte of memory, no other context (R137, R37, R92). -/
def Obligations.Md5CalcResult : Prop :=
  ∀ (s : State) (outDigest : Word), s.md5.phase = .accumulating → BufferValid s.platform outDigest 16 →
    ∃ (c : Md5Context) (m : Memory),
      exec (.md5Calc outDigest) s =
        .next { s with md5 := c, mem := m, resp := 0, freeIndex := s.freeIndex + 1 } ∧
      c.phase = .finalized ∧
      m.readBytes outDigest.toNat 16 =
        refMd5Emit
          (refChain md5Compress s.md5.h
            (refPadded 64 (refMd5Field s.md5.total.toNat) (s.md5.buf.toList.take (s.md5.total.toNat % 64)))) ∧
      ∀ a, a < outDigest.toNat ∨ outDigest.toNat + 16 ≤ a → m.read a = s.mem.read a

/-- SHA256_CALC likewise, with a big-endian length field and 28 or 32 digest bytes; the variant stays (R168, R37, R92). -/
def Obligations.Sha256CalcResult : Prop :=
  ∀ (s : State) (outDigest : Word) (n : Nat), s.s256.phase = .accumulating →
    n = (if s.s256.variant = .sha224 then 28 else 32) → BufferValid s.platform outDigest n →
    ∃ (c : Sha256Context) (m : Memory),
      exec (.sha256Calc outDigest) s =
        .next { s with s256 := c, mem := m, resp := 0, freeIndex := s.freeIndex + 1 } ∧
      c.phase = .finalized ∧ c.variant = s.s256.variant ∧
      m.readBytes outDigest.toNat n =
        refSha256Emit s.s256.variant
          (refChain sha256Compress s.s256.h
            (refPadded 64 (refSha256Field s.s256.total.toNat)
              (s.s256.buf.toList.take (s.s256.total.toNat % 64)))) ∧
      ∀ a, a < outDigest.toNat ∨ outDigest.toNat + n ≤ a → m.read a = s.mem.read a

/-- SHA512_CALC likewise, with a 16-byte length field taken from the whole counter and 48 or 64 digest bytes (R198,
R37, R92). -/
def Obligations.Sha512CalcResult : Prop :=
  ∀ (s : State) (outDigest : Word) (n : Nat), s.s512.phase = .accumulating →
    n = (if s.s512.variant = .sha384 then 48 else 64) → BufferValid s.platform outDigest n →
    ∃ (c : Sha512Context) (m : Memory),
      exec (.sha512Calc outDigest) s =
        .next { s with s512 := c, mem := m, resp := 0, freeIndex := s.freeIndex + 1 } ∧
      c.phase = .finalized ∧ c.variant = s.s512.variant ∧
      m.readBytes outDigest.toNat n =
        refSha512Emit s.s512.variant
          (refChain sha512Compress s.s512.h
            (refPadded 128 (refBig (8 * s.s512.total.toNat) 16)
              (s.s512.buf.toList.take (s.s512.total.toNat % 128)))) ∧
      ∀ a, a < outDigest.toNat ∨ outDigest.toNat + n ≤ a → m.read a = s.mem.read a

/-! ### Streaming is one-shot hashing -/

/-- The MD5 commands refine one-shot MD5: INIT has absorbed the empty message, DATAADD appends its bytes to the message
absorbed, CALC writes the digest of the message absorbed (R28, R135, R136, R137). -/
def Obligations.Md5StreamingIsOneShot : Prop :=
  (∀ s : State, ∃ t, exec .md5Init s = .next t ∧ md5Absorbed t.md5 []) ∧
  (∀ (s : State) (m : List Byte) (data length : Word), md5Absorbed s.md5 m →
    BufferValid s.platform data (length.toNat % 65536) →
    ∃ t, exec (.md5DataAdd data length) s = .next t ∧
      md5Absorbed t.md5 (m ++ s.mem.readBytes data.toNat (length.toNat % 65536))) ∧
  ∀ (s : State) (m : List Byte) (outDigest : Word), md5Absorbed s.md5 m → BufferValid s.platform outDigest 16 →
    ∃ t, exec (.md5Calc outDigest) s = .next t ∧ t.mem.readBytes outDigest.toNat 16 = refMd5 m

/-- The SHA-256 commands refine one-shot SHA-224 and SHA-256 (R28, R166, R167, R168). -/
def Obligations.Sha256StreamingIsOneShot : Prop :=
  (∀ (s : State) (v : Sha256Variant),
    ∃ t, exec (.sha256Init v) s = .next t ∧ t.s256.variant = v ∧ sha256Absorbed t.s256 []) ∧
  (∀ (s : State) (m : List Byte) (data length : Word), sha256Absorbed s.s256 m →
    BufferValid s.platform data length.toNat →
    ∃ t, exec (.sha256DataAdd data length) s = .next t ∧ t.s256.variant = s.s256.variant ∧
      sha256Absorbed t.s256 (m ++ s.mem.readBytes data.toNat length.toNat)) ∧
  ∀ (s : State) (m : List Byte) (outDigest : Word) (n : Nat), sha256Absorbed s.s256 m →
    n = (if s.s256.variant = .sha224 then 28 else 32) → BufferValid s.platform outDigest n →
    ∃ t, exec (.sha256Calc outDigest) s = .next t ∧
      t.mem.readBytes outDigest.toNat n = refSha256 s.s256.variant m

/-- The SHA-512 commands refine one-shot SHA-384 and SHA-512, for every counter width the spec allows (R28, R196,
R197, R198, D12). -/
def Obligations.Sha512StreamingIsOneShot : Prop :=
  (∀ (s : State) (v : Sha512Variant),
    ∃ t, exec (.sha512Init v) s = .next t ∧ t.s512.variant = v ∧
      sha512Absorbed s.platform.sha512CounterBits t.s512 []) ∧
  (∀ (s : State) (m : List Byte) (data length : Word),
    7 ≤ s.platform.sha512CounterBits → s.platform.sha512CounterBits ≤ 128 →
    sha512Absorbed s.platform.sha512CounterBits s.s512 m → BufferValid s.platform data length.toNat →
    ∃ t, exec (.sha512DataAdd data length) s = .next t ∧ t.s512.variant = s.s512.variant ∧
      sha512Absorbed s.platform.sha512CounterBits t.s512 (m ++ s.mem.readBytes data.toNat length.toNat)) ∧
  ∀ (s : State) (m : List Byte) (outDigest : Word) (n : Nat),
    7 ≤ s.platform.sha512CounterBits → s.platform.sha512CounterBits ≤ 128 →
    sha512Absorbed s.platform.sha512CounterBits s.s512 m →
    n = (if s.s512.variant = .sha384 then 48 else 64) → BufferValid s.platform outDigest n →
    ∃ t, exec (.sha512Calc outDigest) s = .next t ∧
      t.mem.readBytes outDigest.toNat n = refSha512 s.platform.sha512CounterBits s.s512.variant m

/-! ### Message schedules -/

/-- The SHA-256 message schedule: 64 words, the first sixteen big-endian from the block, each further one by the
recurrence (R163). -/
def Obligations.Sha256ScheduleRecurrence : Prop :=
  ∀ block : Vector Byte 64,
    (sha256Schedule block).length = 64 ∧
    (∀ t < 16,
      ((sha256Schedule block).getD t 0).toNat =
        256 ^ 3 * (block.getD (4 * t) 0).toNat + 256 ^ 2 * (block.getD (4 * t + 1) 0).toNat +
          256 * (block.getD (4 * t + 2) 0).toNat + (block.getD (4 * t + 3) 0).toNat) ∧
    ∀ t, 16 ≤ t → t < 64 →
      (sha256Schedule block).getD t 0 =
        sha256SmallSigma1 ((sha256Schedule block).getD (t - 2) 0) + (sha256Schedule block).getD (t - 7) 0 +
          sha256SmallSigma0 ((sha256Schedule block).getD (t - 15) 0) + (sha256Schedule block).getD (t - 16) 0

/-- The SHA-512 message schedule: 80 words of 64 bits (R193). -/
def Obligations.Sha512ScheduleRecurrence : Prop :=
  ∀ block : Vector Byte 128,
    (sha512Schedule block).length = 80 ∧
    (∀ t < 16,
      ((sha512Schedule block).getD t 0).toNat =
        256 ^ 7 * (block.getD (8 * t) 0).toNat + 256 ^ 6 * (block.getD (8 * t + 1) 0).toNat +
          256 ^ 5 * (block.getD (8 * t + 2) 0).toNat + 256 ^ 4 * (block.getD (8 * t + 3) 0).toNat +
          256 ^ 3 * (block.getD (8 * t + 4) 0).toNat + 256 ^ 2 * (block.getD (8 * t + 5) 0).toNat +
          256 * (block.getD (8 * t + 6) 0).toNat + (block.getD (8 * t + 7) 0).toNat) ∧
    ∀ t, 16 ≤ t → t < 80 →
      (sha512Schedule block).getD t 0 =
        sha512SmallSigma1 ((sha512Schedule block).getD (t - 2) 0) + (sha512Schedule block).getD (t - 7) 0 +
          sha512SmallSigma0 ((sha512Schedule block).getD (t - 15) 0) + (sha512Schedule block).getD (t - 16) 0

/-- SHA-256 compression over a rotating 16-word window equals compression over the full schedule (R165). -/
def Obligations.Sha256WindowModeEquivalent : Prop :=
  ∀ (h : Vector Word 8) (block : Vector Byte 64), sha256WindowCompress h block = sha256Compress h block

/-- SHA-512 compression over a rotating 16-word window equals compression over the full schedule (R195). -/
def Obligations.Sha512WindowModeEquivalent : Prop :=
  ∀ (h : Vector DWord 8) (block : Vector Byte 128), sha512WindowCompress h block = sha512Compress h block

/-! ### ChaCha20 -/

/-- A key length other than 16 and 32 raises InvalidKeyLength: RESP is 1 and nothing else changes, whatever the
pointers and the context; 16 and 32 report success (R261). -/
def Obligations.BadKeyLengthChangesOnlyResp : Prop :=
  ∀ (s : State) (nonce key : Word) (keyLength : Byte),
    (keyLength.toNat ≠ 16 → keyLength.toNat ≠ 32 →
      exec (.chacha20KeyExpand nonce key keyLength) s = .next { s with resp := 1 }) ∧
    (keyLength.toNat = 16 ∨ keyLength.toNat = 32 → BufferValid s.platform nonce 8 →
      BufferValid s.platform key keyLength.toNat →
      ∃ t, exec (.chacha20KeyExpand nonce key keyLength) s = .next t ∧ t.resp = 0)

/-- A successful CHACHA20_KEYEXPAND loads constants, key words (the first half repeated for a 16-byte key), counter 0
and nonce, all little-endian, runs one block generation, sets the offset to 0, and changes nothing outside the ChaCha20
context and RESP (R225, R220, R92). -/
def Obligations.KeyExpandResult : Prop :=
  ∀ (s : State) (nonce key : Word) (keyLength : Byte), keyLength.toNat = 16 ∨ keyLength.toNat = 32 →
    BufferValid s.platform nonce 8 → BufferValid s.platform key keyLength.toNat →
    ∃ c : ChachaContext, exec (.chacha20KeyExpand nonce key keyLength) s = .next { s with cc := c, resp := 0 } ∧
      c.keyed = true ∧ c.off = 0 ∧ c.ks = chachaBlock c.key ∧
      c.key[0] = 0x61707865 ∧ c.key[1] = (if keyLength.toNat = 16 then 0x3120646E else 0x3320646E) ∧
      c.key[2] = (if keyLength.toNat = 16 then 0x79622D36 else 0x79622D32) ∧ c.key[3] = 0x6B206574 ∧
      (∀ i < 4, (c.key.getD (4 + i) 0).toNat = refLittleWord s.mem (key.toNat + 4 * i)) ∧
      (∀ i < 4, (c.key.getD (8 + i) 0).toNat =
        refLittleWord s.mem (key.toNat + (if keyLength.toNat = 32 then 16 else 0) + 4 * i)) ∧
      c.key[12] = 0 ∧ c.key[13] = 0 ∧
      c.key[14].toNat = refLittleWord s.mem nonce.toNat ∧ c.key[15].toNat = refLittleWord s.mem (nonce.toNat + 4)

/-- CHACHA20_POSITIONSET sets counter and offset to position / 64 and position mod 64 of the 70-bit position, makes the
block of that counter, and keeps constants, key, nonce and `keyed` (R227, R96). -/
def Obligations.PositionSetResult : Prop :=
  ∀ (s : State) (upper6 : Byte) (high32 low32 : Word) (position : Nat), s.cc.keyed = true →
    position = upper6.toNat % 64 * 2 ^ 64 + high32.toNat * 2 ^ 32 + low32.toNat →
    ∃ c : ChachaContext,
      exec (.chacha20PositionSet upper6 high32 low32) s = .next { s with cc := c, resp := 0 } ∧
      c.keyed = true ∧ c.off.toNat = position % 64 ∧
      c.key[12].toNat = position / 64 % 2 ^ 32 ∧ c.key[13].toNat = position / 64 / 2 ^ 32 ∧
      c.ks = chachaBlock c.key ∧ ∀ j : Fin 16, j ≠ 12 → j ≠ 13 → c.key[j] = s.cc.key[j]

/-- CHACHA20_ENCRYPT completes for every keyed context, valid buffers and allowed overlap. It leaves every byte outside
the output buffer, the key, nonce and constant words, `keyed` and everything outside the ChaCha20 context alone, but for
RESP (R226, R74, R92). -/
def Obligations.EncryptCompletesAndFrames : Prop :=
  ∀ (s : State) (output message length : Word), s.cc.keyed = true → BufferValid s.platform output length.toNat →
    BufferValid s.platform message length.toNat → refOverlapAllowed output message length.toNat →
    ∃ (c : ChachaContext) (m : Memory),
      exec (.chacha20Encrypt output message length) s = .next { s with cc := c, mem := m, resp := 0 } ∧
      c.keyed = true ∧ (∀ j : Fin 16, j ≠ 12 → j ≠ 13 → c.key[j] = s.cc.key[j]) ∧
      ∀ a, a < output.toNat ∨ output.toNat + length.toNat ≤ a → m.read a = s.mem.read a

/-- CHACHA20_ENCRYPT of one byte: an exhausted block (offset 64) is first replaced by the block of the next counter;
the byte is XORed with the keystream byte at the offset; the offset steps (R226, R228, R224). -/
def Obligations.EncryptOneByte : Prop :=
  ∀ (s : State) (output message : Word), s.cc.keyed = true → s.cc.off.toNat ≤ 64 →
    BufferValid s.platform output 1 → BufferValid s.platform message 1 →
    ∃ (c : ChachaContext) (m : Memory),
      exec (.chacha20Encrypt output message 1) s = .next { s with cc := c, mem := m, resp := 0 } ∧
      c.keyed = true ∧
      (s.cc.off.toNat < 64 → c.key = s.cc.key ∧ c.ks = s.cc.ks ∧ c.off.toNat = s.cc.off.toNat + 1) ∧
      (s.cc.off.toNat = 64 →
        c.key = chachaCounterIncrement s.cc.key ∧ c.ks = chachaBlock c.key ∧ c.off.toNat = 1) ∧
      m.read output.toNat =
        s.mem.read message.toNat ^^^
          refByte (c.ks.getD ((c.off.toNat - 1) / 4) 0).toNat ((c.off.toNat - 1) % 4) ∧
      ∀ a, a ≠ output.toNat → m.read a = s.mem.read a

/-- Encrypting n + k bytes is encrypting n and then k (R226 (d)); on the same buffer or on disjoint ones, keyed or
not. -/
def Obligations.EncryptSplitsAnywhere : Prop :=
  ∀ (s : State) (output message : Word) (n k : Nat), 0 < k → BufferValid s.platform output (n + k) →
    BufferValid s.platform message (n + k) → refOverlapAllowed output message (n + k) →
    exec (.chacha20Encrypt output message (BitVec.ofNat 32 (n + k))) s =
      andThen (exec (.chacha20Encrypt output message (BitVec.ofNat 32 n)) s)
        (exec
          (.chacha20Encrypt (output + BitVec.ofNat 32 n) (message + BitVec.ofNat 32 n) (BitVec.ofNat 32 k)))

/-- Output byte i of CHACHA20_ENCRYPT is message byte i XOR the keystream at position P0 + i, and the position advances
by the length, all modulo 2^70, for disjoint buffers and in place (R230 (a), R226 (c), R31). The hypotheses on the
context are part of the invariant of `InvariantKeptByEveryStep`. -/
def Obligations.EncryptXorsKeystreamAtPosition : Prop :=
  ∀ (s : State) (output message length : Word), s.cc.keyed = true → s.cc.off.toNat ≤ 64 →
    s.cc.ks = chachaBlock s.cc.key → BufferValid s.platform output length.toNat →
    BufferValid s.platform message length.toNat → refOverlapAllowed output message length.toNat →
    ∃ t, exec (.chacha20Encrypt output message length) s = .next t ∧
      (∀ i < length.toNat,
        t.mem.read (output.toNat + i) =
          s.mem.read (message.toNat + i) ^^^
            keystreamAt s.cc.key (keystreamPosition s.cc + BitVec.ofNat 70 i)) ∧
      keystreamPosition t.cc = keystreamPosition s.cc + BitVec.ofNat 70 length.toNat

/-- Encrypting in place, going back to the starting position, and encrypting in place again (decrypting, R106) restores
all of memory (R230 (c)). -/
def Obligations.EncryptThenDecryptRestores : Prop :=
  ∀ (s : State) (buffer length high32 low32 : Word) (upper6 : Byte), s.cc.keyed = true → s.cc.off.toNat ≤ 64 →
    s.cc.ks = chachaBlock s.cc.key → BufferValid s.platform buffer length.toNat →
    upper6.toNat % 64 * 2 ^ 64 + high32.toNat * 2 ^ 32 + low32.toNat = (keystreamPosition s.cc).toNat →
    ∃ t,
      andThen
          (andThen (exec (.chacha20Encrypt buffer buffer length) s) (exec (.chacha20PositionSet upper6 high32 low32)))
          (exec (.chacha20Decrypt buffer buffer length)) =
        .next t ∧
      ∀ a, t.mem.read a = s.mem.read a

/-- The block counter is one 64-bit number, word 13 above word 12: it steps by one, the carry out is dropped, and no
other word changes (R228). -/
def Obligations.CounterIncrementIs64Bit : Prop :=
  ∀ key : Vector Word 16,
    (chachaCounterIncrement key)[13] ++ (chachaCounterIncrement key)[12] = (key[13] ++ key[12]) + 1#64 ∧
    ∀ j : Fin 16, j ≠ 12 → j ≠ 13 → (chachaCounterIncrement key)[j] = key[j]

/-- The four column quarter-rounds may be done in any order, and so may the four diagonal ones (R222). -/
def Obligations.QuarterRoundOrderImmaterial : Prop :=
  ∀ (x : Vector Word 16) (l : List (Fin 16 × Fin 16 × Fin 16 × Fin 16)),
    (l.Perm [(0, 4, 8, 12), (1, 5, 9, 13), (2, 6, 10, 14), (3, 7, 11, 15)] → l.foldl refQuarter x = chachaColumns x) ∧
    (l.Perm [(0, 5, 10, 15), (1, 6, 11, 12), (2, 7, 8, 13), (3, 4, 9, 14)] →
      l.foldl refQuarter x = chachaDiagonals x)

/-! ### What the spec leaves undefined is refused, nothing else is (93 U1 to U5) -/

/-- A command completes exactly when its use is not one that the spec calls undefined, and no command ever faults
(R269; 93 part 1). -/
def Obligations.CompletesExactlyWhenDefined : Prop :=
  ∀ (i : Instr) (s : State), ((∃ t, exec i s = .next t) ↔ ¬refUndefined s i) ∧ ∀ r, exec i s ≠ .fault r

/-- E_DATAADD and E_CALC in phase FINALIZED or UNINITIALIZED are refused by name, whatever their operands (R29, R293;
U1, U2). -/
def Obligations.HashCommandsRefusedOutOfPhase : Prop :=
  ∀ (s : State) (p n : Word),
    (s.md5.phase = .finalized →
      exec (.md5DataAdd p n) s = .refused (.contextFinalized .md5) ∧
        exec (.md5Calc p) s = .refused (.contextFinalized .md5)) ∧
    (s.md5.phase = .uninitialized →
      exec (.md5DataAdd p n) s = .refused (.contextUninitialized .md5) ∧
        exec (.md5Calc p) s = .refused (.contextUninitialized .md5)) ∧
    (s.s256.phase = .finalized →
      exec (.sha256DataAdd p n) s = .refused (.contextFinalized .sha256) ∧
        exec (.sha256Calc p) s = .refused (.contextFinalized .sha256)) ∧
    (s.s256.phase = .uninitialized →
      exec (.sha256DataAdd p n) s = .refused (.contextUninitialized .sha256) ∧
        exec (.sha256Calc p) s = .refused (.contextUninitialized .sha256)) ∧
    (s.s512.phase = .finalized →
      exec (.sha512DataAdd p n) s = .refused (.contextFinalized .sha512) ∧
        exec (.sha512Calc p) s = .refused (.contextFinalized .sha512)) ∧
    (s.s512.phase = .uninitialized →
      exec (.sha512DataAdd p n) s = .refused (.contextUninitialized .sha512) ∧
        exec (.sha512Calc p) s = .refused (.contextUninitialized .sha512))

/-- CHACHA20_ENCRYPT and CHACHA20_POSITIONSET before any successful key expansion are refused (R32; U3). -/
def Obligations.UnkeyedChachaRefused : Prop :=
  ∀ (s : State) (a b c : Word) (u : Byte), s.cc.keyed = false →
    exec (.chacha20Encrypt a b c) s = .refused .chachaNotKeyed ∧
      exec (.chacha20PositionSet u a b) s = .refused .chachaNotKeyed

/-- A buffer that is not valid is refused, by each of the eight commands that name one (R62, R75; U4). That
CHACHA20_ENCRYPT names the invalid buffer also where its ranges overlap partially is the model's choice (log entry
8). -/
def Obligations.InvalidBufferRefused : Prop :=
  ∀ (s : State) (p q n : Word),
    (s.md5.phase = .accumulating → ¬BufferValid s.platform p (n.toNat % 65536) →
      ∃ why, exec (.md5DataAdd p n) s = .refused (.invalidBuffer p (n.toNat % 65536) why)) ∧
    (s.md5.phase = .accumulating → ¬BufferValid s.platform p 16 →
      ∃ why, exec (.md5Calc p) s = .refused (.invalidBuffer p 16 why)) ∧
    (s.s256.phase = .accumulating → ¬BufferValid s.platform p n.toNat →
      ∃ why, exec (.sha256DataAdd p n) s = .refused (.invalidBuffer p n.toNat why)) ∧
    (s.s256.phase = .accumulating → ∀ k, k = (if s.s256.variant = .sha224 then 28 else 32) →
      ¬BufferValid s.platform p k → ∃ why, exec (.sha256Calc p) s = .refused (.invalidBuffer p k why)) ∧
    (s.s512.phase = .accumulating → ¬BufferValid s.platform p n.toNat →
      ∃ why, exec (.sha512DataAdd p n) s = .refused (.invalidBuffer p n.toNat why)) ∧
    (s.s512.phase = .accumulating → ∀ k, k = (if s.s512.variant = .sha384 then 48 else 64) →
      ¬BufferValid s.platform p k → ∃ why, exec (.sha512Calc p) s = .refused (.invalidBuffer p k why)) ∧
    (∀ keyLength : Byte, keyLength = 16 ∨ keyLength = 32 →
      ¬BufferValid s.platform p 8 ∨ ¬BufferValid s.platform q keyLength.toNat →
      ∃ b k why, exec (.chacha20KeyExpand p q keyLength) s = .refused (.invalidBuffer b k why)) ∧
    (s.cc.keyed = true → ¬BufferValid s.platform p n.toNat ∨ ¬BufferValid s.platform q n.toNat →
      ∃ b why, exec (.chacha20Encrypt p q n) s = .refused (.invalidBuffer b n.toNat why))

/-- CHACHA20_ENCRYPT on ranges that overlap without being identical is refused (R74; U5). -/
def Obligations.PartialOverlapRefused : Prop :=
  ∀ (s : State) (output message length : Word), s.cc.keyed = true → BufferValid s.platform output length.toNat →
    BufferValid s.platform message length.toNat → ¬refOverlapAllowed output message length.toNat →
    exec (.chacha20Encrypt output message length) s = .refused (.partialOverlap output message length)

/-! ### Rules of the whole block -/

/-- A command touches only the context of the engine it addresses; no command writes a frame register, a parameter or
the host's actions (R8, R92, R21). -/
def Obligations.CommandsTouchOneEngine : Prop :=
  ∀ (i : Instr) (s t : State), exec i s = .next t →
    (engineOf i ≠ .md5 → t.md5 = s.md5) ∧ (engineOf i ≠ .sha256 → t.s256 = s.s256) ∧
      (engineOf i ≠ .sha512 → t.s512 = s.s512) ∧ (engineOf i ≠ .chacha20 → t.cc = s.cc) ∧ t.w0 = s.w0 ∧
      t.a0 = s.a0 ∧ t.a1 = s.a1 ∧ t.a2 = s.a2 ∧ t.platform = s.platform ∧ t.input = s.input

/-- No command reads the context of an engine it does not address: put anything there, and the outcome differs in
nothing else (R8). -/
def Obligations.OtherEnginesNeverRead : Prop :=
  ∀ (i : Instr) (s : State),
    (engineOf i ≠ .md5 →
      ∀ c, exec i { s with md5 := c } = mapNext (fun t => { t with md5 := c }) (exec i s)) ∧
    (engineOf i ≠ .sha256 →
      ∀ c, exec i { s with s256 := c } = mapNext (fun t => { t with s256 := c }) (exec i s)) ∧
    (engineOf i ≠ .sha512 →
      ∀ c, exec i { s with s512 := c } = mapNext (fun t => { t with s512 := c }) (exec i s)) ∧
    (engineOf i ≠ .chacha20 →
      ∀ c, exec i { s with cc := c } = mapNext (fun t => { t with cc := c }) (exec i s))

/-- No command reads RESP, and every command that completes overwrites it: its old value never matters (R24, R22,
R265). -/
def Obligations.RespNeverRead : Prop :=
  ∀ (i : Instr) (s : State) (r : Word), exec i { s with resp := r } = exec i s

/-- No byte of memory changes outside the one buffer the command writes; a command that writes none changes no byte
(R75, R243). -/
def Obligations.OnlyWrittenBufferChanges : Prop :=
  ∀ (i : Instr) (s t : State), exec i s = .next t →
    ∀ a, a < (writtenBuffer s i).1 ∨ (writtenBuffer s i).1 + (writtenBuffer s i).2 ≤ a →
      t.mem.read a = s.mem.read a

/-- RESP after a command that completes: 1 for a key expansion with a wrong length, 0 for everything else (R22,
R100). -/
def Obligations.ResponseOfEveryCommand : Prop :=
  ∀ (i : Instr) (s t : State), exec i s = .next t → t.resp = refResponse i

/-- The phase machine of the three hash engines (R29). -/
def Obligations.PhaseMachine : Prop :=
  ∀ (i : Instr) (s t : State), exec i s = .next t → (t.md5.phase, t.s256.phase, t.s512.phase) = refPhases s i

/-- Only the INIT commands write a variant; only key expansion writes constants, key words, nonce and `keyed` (R26, R27,
R227). -/
def Obligations.VariantsAndKeyFixedBetweenInits : Prop :=
  ∀ (i : Instr) (s t : State), exec i s = .next t →
    ((∀ v, i ≠ .sha256Init v) → t.s256.variant = s.s256.variant) ∧
    ((∀ v, i ≠ .sha512Init v) → t.s512.variant = s.s512.variant) ∧
    ((∀ n k l, i ≠ .chacha20KeyExpand n k l) →
      t.cc.keyed = s.cc.keyed ∧ ∀ j : Fin 16, j ≠ 12 → j ≠ 13 → t.cc.key[j] = s.cc.key[j])

/-- Key material leaves the block only through CHACHA20_ENCRYPT: for every other command, what the host observes is the
same whatever the key, the keystream and the offset are (R33). -/
def Obligations.KeyObservableOnlyThroughEncrypt : Prop :=
  ∀ (i : Instr) (s : State) (c : ChachaContext), (∀ o m l, i ≠ .chacha20Encrypt o m l) → c.keyed = s.cc.keyed →
    hostViewOf (exec i { s with cc := c }) = hostViewOf (exec i s)

/-- Every step keeps the invariant: canonical memory inside the address space, a legal response, the offset in 0..64,
a coherent keystream block, the SHA-512 counter inside its width (R22, R31, R27, R60). -/
def Obligations.InvariantKeptByEveryStep : Prop :=
  ∀ s t : State, s.Inv → step s = .next t → t.Inv

/-- The state after reset meets the invariant. -/
def Obligations.ResetMeetsInvariant : Prop :=
  State.reset.Inv

/-- An admitted run that starts in the invariant ends in it, with the parameters it started with (R300, R9). -/
def Obligations.AdmittedRunsKeepInvariant : Prop :=
  ∀ (n : Nat) (s : State), s.Inv → admitted n s →
    ∃ t, runSteps n s = .next t ∧ t.Inv ∧ t.platform = s.platform

/-- No step ever changes a byte outside `ValidAddr` (R62, R300). -/
def Obligations.StepsWriteOnlyValidMemory : Prop :=
  ∀ s t : State, step s = .next t → ∀ a, t.mem.read a ≠ s.mem.read a → validAddr s.platform a = true
end

