-- ==== Sys2Proof/Laws/State.lean ====
section
/-! SUPPORT. One lemma per field per update of the state: an update changes the field it names and no other. -/

namespace Sys2Proof.Machine

/-! ### withFrame -/

@[simp] theorem State.withFrame_w0 (s : State) (f : Frame) : (s.withFrame f).w0 = f.w0 := rfl
@[simp] theorem State.withFrame_a0 (s : State) (f : Frame) : (s.withFrame f).a0 = f.a0 := rfl
@[simp] theorem State.withFrame_a1 (s : State) (f : Frame) : (s.withFrame f).a1 = f.a1 := rfl
@[simp] theorem State.withFrame_a2 (s : State) (f : Frame) : (s.withFrame f).a2 = f.a2 := rfl
@[simp] theorem State.withFrame_resp (s : State) (f : Frame) : (s.withFrame f).resp = s.resp := rfl
@[simp] theorem State.withFrame_md5 (s : State) (f : Frame) : (s.withFrame f).md5 = s.md5 := rfl
@[simp] theorem State.withFrame_s256 (s : State) (f : Frame) : (s.withFrame f).s256 = s.s256 := rfl
@[simp] theorem State.withFrame_s512 (s : State) (f : Frame) : (s.withFrame f).s512 = s.s512 := rfl
@[simp] theorem State.withFrame_cc (s : State) (f : Frame) : (s.withFrame f).cc = s.cc := rfl
@[simp] theorem State.withFrame_mem (s : State) (f : Frame) : (s.withFrame f).mem = s.mem := rfl
@[simp] theorem State.withFrame_platform (s : State) (f : Frame) : (s.withFrame f).platform = s.platform := rfl
@[simp] theorem State.withFrame_input (s : State) (f : Frame) : (s.withFrame f).input = s.input := rfl
@[simp] theorem State.withFrame_freeIndex (s : State) (f : Frame) : (s.withFrame f).freeIndex = s.freeIndex := rfl

/-! ### withResp -/

@[simp] theorem State.withResp_w0 (s : State) (r : Word) : (s.withResp r).w0 = s.w0 := rfl
@[simp] theorem State.withResp_a0 (s : State) (r : Word) : (s.withResp r).a0 = s.a0 := rfl
@[simp] theorem State.withResp_a1 (s : State) (r : Word) : (s.withResp r).a1 = s.a1 := rfl
@[simp] theorem State.withResp_a2 (s : State) (r : Word) : (s.withResp r).a2 = s.a2 := rfl
@[simp] theorem State.withResp_resp (s : State) (r : Word) : (s.withResp r).resp = r := rfl
@[simp] theorem State.withResp_md5 (s : State) (r : Word) : (s.withResp r).md5 = s.md5 := rfl
@[simp] theorem State.withResp_s256 (s : State) (r : Word) : (s.withResp r).s256 = s.s256 := rfl
@[simp] theorem State.withResp_s512 (s : State) (r : Word) : (s.withResp r).s512 = s.s512 := rfl
@[simp] theorem State.withResp_cc (s : State) (r : Word) : (s.withResp r).cc = s.cc := rfl
@[simp] theorem State.withResp_mem (s : State) (r : Word) : (s.withResp r).mem = s.mem := rfl
@[simp] theorem State.withResp_platform (s : State) (r : Word) : (s.withResp r).platform = s.platform := rfl
@[simp] theorem State.withResp_input (s : State) (r : Word) : (s.withResp r).input = s.input := rfl
@[simp] theorem State.withResp_freeIndex (s : State) (r : Word) : (s.withResp r).freeIndex = s.freeIndex := rfl

/-! ### withMd5 -/

@[simp] theorem State.withMd5_w0 (s : State) (c : Md5Context) : (s.withMd5 c).w0 = s.w0 := rfl
@[simp] theorem State.withMd5_a0 (s : State) (c : Md5Context) : (s.withMd5 c).a0 = s.a0 := rfl
@[simp] theorem State.withMd5_a1 (s : State) (c : Md5Context) : (s.withMd5 c).a1 = s.a1 := rfl
@[simp] theorem State.withMd5_a2 (s : State) (c : Md5Context) : (s.withMd5 c).a2 = s.a2 := rfl
@[simp] theorem State.withMd5_resp (s : State) (c : Md5Context) : (s.withMd5 c).resp = s.resp := rfl
@[simp] theorem State.withMd5_md5 (s : State) (c : Md5Context) : (s.withMd5 c).md5 = c := rfl
@[simp] theorem State.withMd5_s256 (s : State) (c : Md5Context) : (s.withMd5 c).s256 = s.s256 := rfl
@[simp] theorem State.withMd5_s512 (s : State) (c : Md5Context) : (s.withMd5 c).s512 = s.s512 := rfl
@[simp] theorem State.withMd5_cc (s : State) (c : Md5Context) : (s.withMd5 c).cc = s.cc := rfl
@[simp] theorem State.withMd5_mem (s : State) (c : Md5Context) : (s.withMd5 c).mem = s.mem := rfl
@[simp] theorem State.withMd5_platform (s : State) (c : Md5Context) : (s.withMd5 c).platform = s.platform := rfl
@[simp] theorem State.withMd5_input (s : State) (c : Md5Context) : (s.withMd5 c).input = s.input := rfl
@[simp] theorem State.withMd5_freeIndex (s : State) (c : Md5Context) : (s.withMd5 c).freeIndex = s.freeIndex := rfl

/-! ### withS256 -/

@[simp] theorem State.withS256_w0 (s : State) (c : Sha256Context) : (s.withS256 c).w0 = s.w0 := rfl
@[simp] theorem State.withS256_a0 (s : State) (c : Sha256Context) : (s.withS256 c).a0 = s.a0 := rfl
@[simp] theorem State.withS256_a1 (s : State) (c : Sha256Context) : (s.withS256 c).a1 = s.a1 := rfl
@[simp] theorem State.withS256_a2 (s : State) (c : Sha256Context) : (s.withS256 c).a2 = s.a2 := rfl
@[simp] theorem State.withS256_resp (s : State) (c : Sha256Context) : (s.withS256 c).resp = s.resp := rfl
@[simp] theorem State.withS256_md5 (s : State) (c : Sha256Context) : (s.withS256 c).md5 = s.md5 := rfl
@[simp] theorem State.withS256_s256 (s : State) (c : Sha256Context) : (s.withS256 c).s256 = c := rfl
@[simp] theorem State.withS256_s512 (s : State) (c : Sha256Context) : (s.withS256 c).s512 = s.s512 := rfl
@[simp] theorem State.withS256_cc (s : State) (c : Sha256Context) : (s.withS256 c).cc = s.cc := rfl
@[simp] theorem State.withS256_mem (s : State) (c : Sha256Context) : (s.withS256 c).mem = s.mem := rfl
@[simp] theorem State.withS256_platform (s : State) (c : Sha256Context) : (s.withS256 c).platform = s.platform := rfl
@[simp] theorem State.withS256_input (s : State) (c : Sha256Context) : (s.withS256 c).input = s.input := rfl
@[simp] theorem State.withS256_freeIndex (s : State) (c : Sha256Context) : (s.withS256 c).freeIndex = s.freeIndex := rfl

/-! ### withS512 -/

@[simp] theorem State.withS512_w0 (s : State) (c : Sha512Context) : (s.withS512 c).w0 = s.w0 := rfl
@[simp] theorem State.withS512_a0 (s : State) (c : Sha512Context) : (s.withS512 c).a0 = s.a0 := rfl
@[simp] theorem State.withS512_a1 (s : State) (c : Sha512Context) : (s.withS512 c).a1 = s.a1 := rfl
@[simp] theorem State.withS512_a2 (s : State) (c : Sha512Context) : (s.withS512 c).a2 = s.a2 := rfl
@[simp] theorem State.withS512_resp (s : State) (c : Sha512Context) : (s.withS512 c).resp = s.resp := rfl
@[simp] theorem State.withS512_md5 (s : State) (c : Sha512Context) : (s.withS512 c).md5 = s.md5 := rfl
@[simp] theorem State.withS512_s256 (s : State) (c : Sha512Context) : (s.withS512 c).s256 = s.s256 := rfl
@[simp] theorem State.withS512_s512 (s : State) (c : Sha512Context) : (s.withS512 c).s512 = c := rfl
@[simp] theorem State.withS512_cc (s : State) (c : Sha512Context) : (s.withS512 c).cc = s.cc := rfl
@[simp] theorem State.withS512_mem (s : State) (c : Sha512Context) : (s.withS512 c).mem = s.mem := rfl
@[simp] theorem State.withS512_platform (s : State) (c : Sha512Context) : (s.withS512 c).platform = s.platform := rfl
@[simp] theorem State.withS512_input (s : State) (c : Sha512Context) : (s.withS512 c).input = s.input := rfl
@[simp] theorem State.withS512_freeIndex (s : State) (c : Sha512Context) : (s.withS512 c).freeIndex = s.freeIndex := rfl

/-! ### withCc -/

@[simp] theorem State.withCc_w0 (s : State) (c : ChachaContext) : (s.withCc c).w0 = s.w0 := rfl
@[simp] theorem State.withCc_a0 (s : State) (c : ChachaContext) : (s.withCc c).a0 = s.a0 := rfl
@[simp] theorem State.withCc_a1 (s : State) (c : ChachaContext) : (s.withCc c).a1 = s.a1 := rfl
@[simp] theorem State.withCc_a2 (s : State) (c : ChachaContext) : (s.withCc c).a2 = s.a2 := rfl
@[simp] theorem State.withCc_resp (s : State) (c : ChachaContext) : (s.withCc c).resp = s.resp := rfl
@[simp] theorem State.withCc_md5 (s : State) (c : ChachaContext) : (s.withCc c).md5 = s.md5 := rfl
@[simp] theorem State.withCc_s256 (s : State) (c : ChachaContext) : (s.withCc c).s256 = s.s256 := rfl
@[simp] theorem State.withCc_s512 (s : State) (c : ChachaContext) : (s.withCc c).s512 = s.s512 := rfl
@[simp] theorem State.withCc_cc (s : State) (c : ChachaContext) : (s.withCc c).cc = c := rfl
@[simp] theorem State.withCc_mem (s : State) (c : ChachaContext) : (s.withCc c).mem = s.mem := rfl
@[simp] theorem State.withCc_platform (s : State) (c : ChachaContext) : (s.withCc c).platform = s.platform := rfl
@[simp] theorem State.withCc_input (s : State) (c : ChachaContext) : (s.withCc c).input = s.input := rfl
@[simp] theorem State.withCc_freeIndex (s : State) (c : ChachaContext) : (s.withCc c).freeIndex = s.freeIndex := rfl

/-! ### withMem -/

@[simp] theorem State.withMem_w0 (s : State) (m : Memory) : (s.withMem m).w0 = s.w0 := rfl
@[simp] theorem State.withMem_a0 (s : State) (m : Memory) : (s.withMem m).a0 = s.a0 := rfl
@[simp] theorem State.withMem_a1 (s : State) (m : Memory) : (s.withMem m).a1 = s.a1 := rfl
@[simp] theorem State.withMem_a2 (s : State) (m : Memory) : (s.withMem m).a2 = s.a2 := rfl
@[simp] theorem State.withMem_resp (s : State) (m : Memory) : (s.withMem m).resp = s.resp := rfl
@[simp] theorem State.withMem_md5 (s : State) (m : Memory) : (s.withMem m).md5 = s.md5 := rfl
@[simp] theorem State.withMem_s256 (s : State) (m : Memory) : (s.withMem m).s256 = s.s256 := rfl
@[simp] theorem State.withMem_s512 (s : State) (m : Memory) : (s.withMem m).s512 = s.s512 := rfl
@[simp] theorem State.withMem_cc (s : State) (m : Memory) : (s.withMem m).cc = s.cc := rfl
@[simp] theorem State.withMem_mem (s : State) (m : Memory) : (s.withMem m).mem = m := rfl
@[simp] theorem State.withMem_platform (s : State) (m : Memory) : (s.withMem m).platform = s.platform := rfl
@[simp] theorem State.withMem_input (s : State) (m : Memory) : (s.withMem m).input = s.input := rfl
@[simp] theorem State.withMem_freeIndex (s : State) (m : Memory) : (s.withMem m).freeIndex = s.freeIndex := rfl

/-! ### withInput -/

@[simp] theorem State.withInput_w0 (s : State) (l : List HostAction) : (s.withInput l).w0 = s.w0 := rfl
@[simp] theorem State.withInput_a0 (s : State) (l : List HostAction) : (s.withInput l).a0 = s.a0 := rfl
@[simp] theorem State.withInput_a1 (s : State) (l : List HostAction) : (s.withInput l).a1 = s.a1 := rfl
@[simp] theorem State.withInput_a2 (s : State) (l : List HostAction) : (s.withInput l).a2 = s.a2 := rfl
@[simp] theorem State.withInput_resp (s : State) (l : List HostAction) : (s.withInput l).resp = s.resp := rfl
@[simp] theorem State.withInput_md5 (s : State) (l : List HostAction) : (s.withInput l).md5 = s.md5 := rfl
@[simp] theorem State.withInput_s256 (s : State) (l : List HostAction) : (s.withInput l).s256 = s.s256 := rfl
@[simp] theorem State.withInput_s512 (s : State) (l : List HostAction) : (s.withInput l).s512 = s.s512 := rfl
@[simp] theorem State.withInput_cc (s : State) (l : List HostAction) : (s.withInput l).cc = s.cc := rfl
@[simp] theorem State.withInput_mem (s : State) (l : List HostAction) : (s.withInput l).mem = s.mem := rfl
@[simp] theorem State.withInput_platform (s : State) (l : List HostAction) : (s.withInput l).platform = s.platform := rfl
@[simp] theorem State.withInput_input (s : State) (l : List HostAction) : (s.withInput l).input = l := rfl
@[simp] theorem State.withInput_freeIndex (s : State) (l : List HostAction) : (s.withInput l).freeIndex = s.freeIndex := rfl

/-! ### nextFree -/

@[simp] theorem State.nextFree_w0 (s : State) : (s.nextFree).w0 = s.w0 := rfl
@[simp] theorem State.nextFree_a0 (s : State) : (s.nextFree).a0 = s.a0 := rfl
@[simp] theorem State.nextFree_a1 (s : State) : (s.nextFree).a1 = s.a1 := rfl
@[simp] theorem State.nextFree_a2 (s : State) : (s.nextFree).a2 = s.a2 := rfl
@[simp] theorem State.nextFree_resp (s : State) : (s.nextFree).resp = s.resp := rfl
@[simp] theorem State.nextFree_md5 (s : State) : (s.nextFree).md5 = s.md5 := rfl
@[simp] theorem State.nextFree_s256 (s : State) : (s.nextFree).s256 = s.s256 := rfl
@[simp] theorem State.nextFree_s512 (s : State) : (s.nextFree).s512 = s.s512 := rfl
@[simp] theorem State.nextFree_cc (s : State) : (s.nextFree).cc = s.cc := rfl
@[simp] theorem State.nextFree_mem (s : State) : (s.nextFree).mem = s.mem := rfl
@[simp] theorem State.nextFree_platform (s : State) : (s.nextFree).platform = s.platform := rfl
@[simp] theorem State.nextFree_input (s : State) : (s.nextFree).input = s.input := rfl
@[simp] theorem State.nextFree_freeIndex (s : State) : (s.nextFree).freeIndex = s.freeIndex + 1 := rfl

end Sys2Proof.Machine
end

