-- ==== Sys2Proof/Laws/Ops.lean ====
section
/-! SUPPORT. For each shared operation, once, everything it can do: how a command ends, what each precondition lets
through, buffer validity, and how far the per-byte loops of the engines reach. -/

namespace Sys2Proof.Machine

/-! ### How a command ends -/

@[simp] theorem complete_eq_next (s t : State) : complete s = .next t ↔ s.withResp 0 = t := by
  simp [complete, responseOk]

@[simp] theorem raiseException_eq_next (e : Exception) (s t : State) :
    raiseException e s = .next t ↔ s.withResp (exceptionCode e) = t := by
  simp [raiseException]

/-! ### Preconditions -/

@[simp] theorem requireAccumulating_eq_next (e : HashEngine) (p : Phase) (k : Result) (t : State) :
    requireAccumulating e p k = .next t ↔ p = .accumulating ∧ k = .next t := by
  cases p <;> simp [requireAccumulating]

@[simp] theorem requireAccumulating_of_accumulating (e : HashEngine) (k : Result) :
    requireAccumulating e .accumulating k = k := rfl

@[simp] theorem requireKeyed_eq_next (c : ChachaContext) (k : Result) (t : State) :
    requireKeyed c k = .next t ↔ c.keyed = true ∧ k = .next t := by
  by_cases h : c.keyed = true <;> simp [requireKeyed, h]

theorem requireKeyed_of_keyed {c : ChachaContext} (h : c.keyed = true) (k : Result) : requireKeyed c k = k := by
  simp [requireKeyed, h]

theorem validRange_eq_true (pl : Platform) (a n : Nat) :
    validRange pl a n = true ↔ ∀ k < n, validAddr pl (a + k) = true := by
  induction n generalizing a with
  | zero => simp [validRange]
  | succ n ih =>
    rw [validRange, Bool.and_eq_true, ih]
    constructor
    · rintro ⟨h0, h⟩ k hk
      cases k with
      | zero => simpa using h0
      | succ k =>
        have := h k (by omega)
        rwa [show a + 1 + k = a + (k + 1) by omega] at this
    · intro h
      refine ⟨by simpa using h 0 (by omega), fun k hk => ?_⟩
      have := h (k + 1) (by omega)
      rwa [show a + (k + 1) = a + 1 + k by omega] at this

/-- No error is found exactly in the buffers R62 calls valid. -/
theorem bufferError_eq_none (pl : Platform) (p : Word) (n : Nat) :
    bufferError pl p n = none ↔ BufferValid pl p n := by
  have hl : Config.addressLimit = 2 ^ 32 := rfl
  unfold bufferError BufferValid
  rw [hl, ← validRange_eq_true]
  by_cases h0 : p = 0
  · simp [h0]
  rw [if_neg h0]
  by_cases h1 : 2 ^ 32 < p.toNat + n
  · rw [if_pos h1]
    exact iff_of_false (by simp) fun h => absurd h.2.1 (by omega)
  rw [if_neg h1]
  by_cases h2 : validRange pl p.toNat n = true
  · rw [if_pos h2]
    exact iff_of_true rfl ⟨h0, by omega, h2⟩
  · rw [if_neg h2]
    exact iff_of_false (by simp) fun h => h2 h.2.2

@[simp] theorem requireBuffer_eq_next (pl : Platform) (p : Word) (n : Nat) (k : Result) (t : State) :
    requireBuffer pl p n k = .next t ↔ BufferValid pl p n ∧ k = .next t := by
  rw [← bufferError_eq_none]
  unfold requireBuffer
  cases bufferError pl p n <;> simp

theorem requireBuffer_of_valid {pl : Platform} {p : Word} {n : Nat} (h : BufferValid pl p n) (k : Result) :
    requireBuffer pl p n k = k := by
  rw [← bufferError_eq_none] at h
  simp [requireBuffer, h]

theorem requireBuffer_of_invalid {pl : Platform} {p : Word} {n : Nat} (h : ¬BufferValid pl p n) (k : Result) :
    ∃ why, requireBuffer pl p n k = .refused (.invalidBuffer p n why) := by
  rw [← bufferError_eq_none] at h
  unfold requireBuffer
  cases e : bufferError pl p n with
  | none => exact absurd e h
  | some why => exact ⟨why, rfl⟩

theorem overlapAllowed_eq_true (output message : Word) (n : Nat) :
    overlapAllowed output message n = true ↔
      output = message ∨ output.toNat + n ≤ message.toNat ∨ message.toNat + n ≤ output.toNat := by
  simp [overlapAllowed, or_assoc]

@[simp] theorem requireOverlapAllowed_eq_next (output message length : Word) (k : Result) (t : State) :
    requireOverlapAllowed output message length k = .next t ↔
      overlapAllowed output message (wordLength length) = true ∧ k = .next t := by
  by_cases h : overlapAllowed output message (wordLength length) = true <;> simp [requireOverlapAllowed, h]

theorem requireOverlapAllowed_of_allowed {output message length : Word}
    (h : overlapAllowed output message (wordLength length) = true) (k : Result) :
    requireOverlapAllowed output message length k = k := by
  simp [requireOverlapAllowed, h]

/-! ### Operand forms -/

@[simp] theorem effectiveAddress_zero (p : Word) : effectiveAddress p 0 = p.toNat := rfl

@[simp] theorem wordLength_eq (a : Word) : wordLength a = a.toNat := rfl

theorem md5Length_eq (a1 : Word) : md5Length a1 = a1.toNat % 65536 := by
  simp [md5Length, BitVec.extractLsb'_toNat]

theorem md5Length_of_wellFormed {data a1 : Word} (h : (Instr.md5DataAdd data a1).wellFormed = true) :
    md5Length a1 = a1.toNat := by
  have h' : a1.toNat ≤ 65535 := of_decide_eq_true h
  rw [md5Length_eq]
  omega

/-! ### The per-byte loops of the hash engines -/

theorem md5Absorb_append (c : Md5Context) (x y : List Byte) :
    md5Absorb c (x ++ y) = md5Absorb (md5Absorb c x) y := List.foldl_append

@[simp] theorem md5Absorb_phase (c : Md5Context) (bytes : List Byte) : (md5Absorb c bytes).phase = c.phase := by
  induction bytes generalizing c with
  | nil => rfl
  | cons b bytes ih => exact ih (md5AbsorbByte c b)

theorem sha256Absorb_append (c : Sha256Context) (x y : List Byte) :
    sha256Absorb c (x ++ y) = sha256Absorb (sha256Absorb c x) y := List.foldl_append

@[simp] theorem sha256Absorb_phase (c : Sha256Context) (bytes : List Byte) :
    (sha256Absorb c bytes).phase = c.phase := by
  induction bytes generalizing c with
  | nil => rfl
  | cons b bytes ih => exact ih (sha256AbsorbByte c b)

@[simp] theorem sha256Absorb_variant (c : Sha256Context) (bytes : List Byte) :
    (sha256Absorb c bytes).variant = c.variant := by
  induction bytes generalizing c with
  | nil => rfl
  | cons b bytes ih => exact ih (sha256AbsorbByte c b)

theorem sha512Absorb_append (bits : Nat) (c : Sha512Context) (x y : List Byte) :
    sha512Absorb bits c (x ++ y) = sha512Absorb bits (sha512Absorb bits c x) y := List.foldl_append

@[simp] theorem sha512Absorb_phase (bits : Nat) (c : Sha512Context) (bytes : List Byte) :
    (sha512Absorb bits c bytes).phase = c.phase := by
  induction bytes generalizing c with
  | nil => rfl
  | cons b bytes ih => exact ih (sha512AbsorbByte bits c b)

@[simp] theorem sha512Absorb_variant (bits : Nat) (c : Sha512Context) (bytes : List Byte) :
    (sha512Absorb bits c bytes).variant = c.variant := by
  induction bytes generalizing c with
  | nil => rfl
  | cons b bytes ih => exact ih (sha512AbsorbByte bits c b)

/-- A truncated counter fits its width. -/
theorem truncCounter_lt (bits : Nat) (v : BitVec 128) : (truncCounter bits v).toNat < 2 ^ bits := by
  unfold truncCounter
  rw [BitVec.toNat_setWidth, BitVec.toNat_setWidth]
  exact lt_of_le_of_lt (Nat.mod_le _ _) (Nat.mod_lt _ (Nat.two_pow_pos bits))

theorem truncCounter_toNat {bits : Nat} (h : bits ≤ 128) (v : BitVec 128) :
    (truncCounter bits v).toNat = v.toNat % 2 ^ bits := by
  unfold truncCounter
  rw [BitVec.toNat_setWidth, BitVec.toNat_setWidth, Nat.mod_eq_of_lt]
  exact lt_of_lt_of_le (Nat.mod_lt _ (Nat.two_pow_pos bits)) (Nat.pow_le_pow_right (by omega) h)

/-! ### Digest sizes -/

@[simp] theorem leBytes_length {n : Nat} (w : BitVec n) (count : Nat) : (leBytes w count).length = count := by
  simp [leBytes]

@[simp] theorem beBytes_length {n : Nat} (w : BitVec n) (count : Nat) : (beBytes w count).length = count := by
  simp [beBytes]

@[simp] theorem md5DigestOf_length (h : Vector Word 4) : (md5DigestOf h).length = md5DigestBytes := by
  simp [md5DigestOf, md5DigestBytes, List.length_flatMap]

@[simp] theorem sha256DigestOf_length (v : Sha256Variant) (h : Vector Word 8) :
    (sha256DigestOf v h).length = sha256DigestBytes v := by
  cases v <;> simp [sha256DigestOf, sha256DigestBytes, sha256DigestWords, List.length_flatMap]

@[simp] theorem sha512DigestOf_length (v : Sha512Variant) (h : Vector DWord 8) :
    (sha512DigestOf v h).length = sha512DigestBytes v := by
  cases v <;> simp [sha512DigestOf, sha512DigestBytes, sha512DigestWords, List.length_flatMap]

/-! ### The loop of CHACHA20_ENCRYPT -/

theorem chachaAdvances_add (n k : Nat) (c : ChachaContext) :
    chachaAdvances (n + k) c = chachaAdvances k (chachaAdvances n c) := by
  induction n generalizing c with
  | zero => simp [chachaAdvances]
  | succ n ih =>
    rw [show n + 1 + k = n + k + 1 by omega]
    exact ih (chachaAdvance c)

theorem chachaCrypt_add (output message n k : Nat) (c : ChachaContext) (m : Memory) :
    chachaCrypt output message (n + k) c m =
      chachaCrypt (output + n) (message + n) k (chachaAdvances n c) (chachaCrypt output message n c m) := by
  induction n generalizing output message c m with
  | zero => simp [chachaCrypt, chachaAdvances]
  | succ n ih =>
    rw [show n + 1 + k = n + k + 1 by omega, chachaCrypt, chachaCrypt, ih, chachaAdvances,
      show output + 1 + n = output + (n + 1) by omega, show message + 1 + n = message + (n + 1) by omega]

@[simp] theorem chachaRefill_keyed (c : ChachaContext) : (chachaRefill c).keyed = c.keyed := by
  unfold chachaRefill
  split <;> rfl

@[simp] theorem chachaAdvance_keyed (c : ChachaContext) : (chachaAdvance c).keyed = c.keyed := by
  simp [chachaAdvance]

@[simp] theorem chachaAdvances_keyed (n : Nat) (c : ChachaContext) : (chachaAdvances n c).keyed = c.keyed := by
  induction n generalizing c with
  | zero => rfl
  | succ n ih => exact (ih (chachaAdvance c)).trans (chachaAdvance_keyed c)

/-- Bytes outside the output buffer read as before. -/
theorem chachaCrypt_read_other (output message n : Nat) (c : ChachaContext) (m : Memory) {x : Nat}
    (h : x < output ∨ output + n ≤ x) : (chachaCrypt output message n c m).read x = m.read x := by
  induction n generalizing output message c m with
  | zero => rfl
  | succ n ih => rw [chachaCrypt, ih _ _ _ _ (by omega), Memory.read_write_other _ _ (by omega)]

/-- Encrypting keeps the canonical form of memory. -/
theorem chachaCrypt_wf (output message n : Nat) (c : ChachaContext) {m : Memory} (h : m.wf) :
    (chachaCrypt output message n c m).wf := by
  induction n generalizing output message c m with
  | zero => exact h
  | succ n ih => exact ih _ _ _ (Memory.wf_write h _ _)

/-- Encrypting lists nothing outside the output buffer. -/
theorem chachaCrypt_mem {output message n : Nat} {c : ChachaContext} {m : Memory} {x : Host.Cell}
    (h : x ∈ chachaCrypt output message n c m) : (output ≤ x.1 ∧ x.1 < output + n) ∨ x ∈ m := by
  induction n generalizing output message c m with
  | zero => exact .inr h
  | succ n ih =>
    rcases ih h with h | h
    · omega
    · rcases Memory.mem_write h with h | h
      · omega
      · exact .inr h

end Sys2Proof.Machine
end

