-- ==== Sys2Proof/Laws/Exec.lean ====
section
/-! SUPPORT. For each meaning, once, when it answers a next state and which: the provers cite these instead of
unfolding a meaning. -/

namespace Sys2Proof.Machine

theorem execMd5Init_next (s t : State) : execMd5Init s = .next t ↔ (s.withMd5 md5Fresh).withResp 0 = t := by
  simp [execMd5Init]

theorem execMd5DataAdd_next (data length : Word) (s t : State) :
    execMd5DataAdd data length s = .next t ↔
      s.md5.phase = .accumulating ∧ BufferValid s.platform data (md5Length length) ∧
      (s.withMd5 (md5Absorb s.md5 (s.mem.readBytes data.toNat (md5Length length)))).withResp 0 = t := by
  simp [execMd5DataAdd, -ne_eq]

theorem execMd5Calc_next (outDigest : Word) (s t : State) :
    execMd5Calc outDigest s = .next t ↔
      s.md5.phase = .accumulating ∧ BufferValid s.platform outDigest md5DigestBytes ∧
      (((s.withMem (s.mem.writeBytes outDigest.toNat (md5DigestOf (md5Finish s.md5)))).withMd5
        (md5Exhausted s.freeIndex)).nextFree).withResp 0 = t := by
  simp [execMd5Calc, -ne_eq]

theorem execSha256Init_next (v : Sha256Variant) (s t : State) :
    execSha256Init v s = .next t ↔ (s.withS256 (sha256Fresh v)).withResp 0 = t := by
  simp [execSha256Init]

theorem execSha256DataAdd_next (data length : Word) (s t : State) :
    execSha256DataAdd data length s = .next t ↔
      s.s256.phase = .accumulating ∧ BufferValid s.platform data length.toNat ∧
      (s.withS256 (sha256Absorb s.s256 (s.mem.readBytes data.toNat length.toNat))).withResp 0 = t := by
  simp [execSha256DataAdd, -ne_eq]

theorem execSha256Calc_next (outDigest : Word) (s t : State) :
    execSha256Calc outDigest s = .next t ↔
      s.s256.phase = .accumulating ∧ BufferValid s.platform outDigest (sha256DigestBytes s.s256.variant) ∧
      (((s.withMem
          (s.mem.writeBytes outDigest.toNat (sha256DigestOf s.s256.variant (sha256Finish s.s256)))).withS256
        (sha256Exhausted s.s256.variant s.freeIndex)).nextFree).withResp 0 = t := by
  simp [execSha256Calc, -ne_eq]

theorem execSha512Init_next (v : Sha512Variant) (s t : State) :
    execSha512Init v s = .next t ↔ (s.withS512 (sha512Fresh v)).withResp 0 = t := by
  simp [execSha512Init]

theorem execSha512DataAdd_next (data length : Word) (s t : State) :
    execSha512DataAdd data length s = .next t ↔
      s.s512.phase = .accumulating ∧ BufferValid s.platform data length.toNat ∧
      (s.withS512 (sha512Absorb s.platform.sha512CounterBits s.s512
        (s.mem.readBytes data.toNat length.toNat))).withResp 0 = t := by
  simp [execSha512DataAdd, -ne_eq]

theorem execSha512Calc_next (outDigest : Word) (s t : State) :
    execSha512Calc outDigest s = .next t ↔
      s.s512.phase = .accumulating ∧ BufferValid s.platform outDigest (sha512DigestBytes s.s512.variant) ∧
      (((s.withMem
          (s.mem.writeBytes outDigest.toNat (sha512DigestOf s.s512.variant (sha512Finish s.s512)))).withS512
        (sha512Exhausted s.platform.sha512CounterBits s.s512.variant s.freeIndex)).nextFree).withResp 0 = t := by
  simp [execSha512Calc, -ne_eq]

theorem execChacha20KeyExpand_next (nonce key : Word) (keyLength : Byte) (s t : State) :
    execChacha20KeyExpand nonce key keyLength s = .next t ↔
      (keyLengthValid keyLength = true ∧ BufferValid s.platform nonce nonceBytes ∧
        BufferValid s.platform key keyLength.toNat ∧
        (s.withCc (chachaFresh (chachaMatrix keyLength (s.mem.readBytes key.toNat keyLength.toNat)
          (s.mem.readBytes nonce.toNat nonceBytes)))).withResp 0 = t) ∨
      (keyLengthValid keyLength = false ∧ s.withResp 1 = t) := by
  by_cases h : keyLengthValid keyLength = true <;> simp [execChacha20KeyExpand, h, exceptionCode, -ne_eq]

theorem execChacha20Encrypt_next (output message length : Word) (s t : State) :
    execChacha20Encrypt output message length s = .next t ↔
      s.cc.keyed = true ∧ BufferValid s.platform output length.toNat ∧
      BufferValid s.platform message length.toNat ∧ overlapAllowed output message length.toNat = true ∧
      ((s.withMem (chachaCrypt output.toNat message.toNat length.toNat s.cc s.mem)).withCc
        (chachaAdvances length.toNat s.cc)).withResp 0 = t := by
  simp [execChacha20Encrypt, -ne_eq]

theorem execChacha20PositionSet_next (upper6 : Byte) (high32 low32 : Word) (s t : State) :
    execChacha20PositionSet upper6 high32 low32 s = .next t ↔
      s.cc.keyed = true ∧
      (s.withCc
        { s.cc with
          key := chachaSeek s.cc.key (streamPosition upper6 high32 low32)
          ks := chachaBlock (chachaSeek s.cc.key (streamPosition upper6 high32 low32))
          off := positionOffset (streamPosition upper6 high32 low32) }).withResp 0 = t := by
  simp [execChacha20PositionSet]

/-! ### The actions of the host -/

theorem runFrame_of_decoded {f : Frame} {i : Instr} (h : decode f = .ok i) (s : State) :
    runFrame f s = exec i (s.withFrame f) := by
  simp [runFrame, h]

theorem runFrame_of_illegal {f : Frame} {e : DecodeError} (h : decode f = .error e) (s : State) :
    runFrame f s = .next ((s.withFrame f).withResp 2) := by
  simp [runFrame, h, raiseException, exceptionCode]

theorem hostWriteByte_next (a : Word) (b : Byte) (s t : State) :
    hostWriteByte a b s = .next t ↔
      validAddr s.platform a.toNat = true ∧ s.withMem (s.mem.write a.toNat b) = t := by
  by_cases h : validAddr s.platform a.toNat = true <;> simp [hostWriteByte, h]

end Sys2Proof.Machine
end

