-- ==== Sys2Proof/Laws/PerInstr.lean ====
section
/-! SUPPORT. The family EncodedWord: the command word an instruction encodes to has RSV zero and carries the opcode
of R93; one lemma per constructor. -/

namespace Sys2Proof.Laws.EncodedWord

/-- RSV of the encoded command word is zero and its low byte is the command's opcode (R91, R93). -/
def Statement (i : Instr) : Prop := fieldRsv (encode i).w0 = 0 ∧ fieldOpcode (encode i).w0 = opcodeOf i

/-- Whatever MOD is, the command word keeps RSV zero and the opcode in its low byte (R91). -/
theorem commandWord_fields (opcode mod : Byte) :
    fieldRsv (commandWord opcode mod) = 0 ∧ fieldOpcode (commandWord opcode mod) = opcode := by
  constructor
  · ext i hi
    have h : 8 ≤ 16 + i - 8 := by omega
    have h' : opcode.getLsbD (16 + i) = false := BitVec.getLsbD_of_ge _ _ (by omega)
    simp [fieldRsv, commandWord, BitVec.getElem_extractLsb', h, h']
  · ext i hi
    have h : i < 32 := by omega
    simp [fieldOpcode, commandWord, BitVec.getElem_extractLsb', hi, h]

theorem md5Init : Statement .md5Init := commandWord_fields 0x00 0

theorem md5DataAdd (data length : Word) : Statement (.md5DataAdd data length) := commandWord_fields 0x01 0

theorem md5Calc (outDigest : Word) : Statement (.md5Calc outDigest) := commandWord_fields 0x02 0

theorem sha256Init (variant : Sha256Variant) : Statement (.sha256Init variant) := by
  cases variant
  · exact commandWord_fields 0x10 0
  · exact commandWord_fields 0x10 1

theorem sha256DataAdd (data length : Word) : Statement (.sha256DataAdd data length) := commandWord_fields 0x11 0

theorem sha256Calc (outDigest : Word) : Statement (.sha256Calc outDigest) := commandWord_fields 0x12 0

theorem sha512Init (variant : Sha512Variant) : Statement (.sha512Init variant) := by
  cases variant
  · exact commandWord_fields 0x20 0
  · exact commandWord_fields 0x20 1

theorem sha512DataAdd (data length : Word) : Statement (.sha512DataAdd data length) := commandWord_fields 0x21 0

theorem sha512Calc (outDigest : Word) : Statement (.sha512Calc outDigest) := commandWord_fields 0x22 0

theorem chacha20KeyExpand (nonce key : Word) (keyLength : Byte) :
    Statement (.chacha20KeyExpand nonce key keyLength) := commandWord_fields 0x30 keyLength

theorem chacha20Encrypt (output message length : Word) : Statement (.chacha20Encrypt output message length) :=
  commandWord_fields 0x31 0

theorem chacha20PositionSet (upper6 : Byte) (high32 low32 : Word) :
    Statement (.chacha20PositionSet upper6 high32 low32) := commandWord_fields 0x32 upper6

end Sys2Proof.Laws.EncodedWord
end

