-- ==== Sys2Proof/Tests/Slice0.lean ====
section
/-! SUPPORT. Tests with expected values from spec/95_test_vectors.md and the worked examples of the rules (each test
names its source), and for every statement with hypotheses a witness that meets them. -/

namespace Sys2Proof.Tests

open Sys2Proof.Machine

/-! ### States the tests run on -/

/-- A context of each engine ready for work, ChaCha20 keyed with zeros. -/
def ready : State :=
  { State.reset with
    md5 := md5Fresh
    s256 := sha256Fresh .sha256
    s512 := sha512Fresh .sha512
    cc := chachaFresh (chachaMatrix 32 (List.replicate 32 0) (List.replicate 8 0)) }

/-- `ready` with bytes in memory from 0x1000 on. -/
def withData (bytes : List Byte) : State := ready.withMem (Memory.writeBytes [] 0x1000 bytes)

/-- "abc". -/
def abc : List Byte := [0x61, 0x62, 0x63]

/-- n bytes 0x61, then zeros: a partial block. -/
def aBlock (B n : Nat) : Vector Byte B := Vector.ofFn fun i => if i.val < n then 0x61 else 0

/-- V33's key 00 01 ... 1f at 0x3100 and nonce 00 00 00 09 00 00 00 4a at 0x3000. -/
def keyMemory : Memory :=
  Memory.writeBytes (Memory.writeBytes [] 0x3100 ((List.range 32).map (BitVec.ofNat 8))) 0x3000
    [0, 0, 0, 9, 0, 0, 0, 0x4a]

/-- The context of V33, given by the words V33 prints. -/
def v33Context (low high : Word) (off : BitVec 7) (ks : Vector Word 16) : ChachaContext where
  key := #v[0x61707865, 0x3320646e, 0x79622d32, 0x6b206574, 0x03020100, 0x07060504, 0x0b0a0908, 0x0f0e0d0c,
    0x13121110, 0x17161514, 0x1b1a1918, 0x1f1e1d1c, low, high, 0x09000000, 0x4a000000]
  ks := ks
  off := off
  keyed := true

/-- Keystream block 0 of V33. -/
def v33Block0 : Vector Word 16 :=
  #v[0x56f24661, 0xf9bde14f, 0xe10fcdbc, 0x5ddaf0ed, 0x76faf192, 0x372900cb, 0x02f19aba, 0x5f08a730,
    0xf67bf655, 0xba0f41ab, 0x292c0c06, 0xe1ac0373, 0x3041e3e2, 0xd87eff18, 0xb695fa7c, 0xe54e090f]

/-- Whether an outcome is a next state with a property. -/
def nextWith (r : Result) (p : State → Bool) : Bool :=
  match r with
  | .next t => p t
  | .fault _ => false
  | .refused _ => false

/-- Whether decoding refuses a frame. -/
def refusesFrame (f : Frame) : Bool :=
  match decode f with
  | .ok _ => false
  | .error _ => true

/-! ### Well-formedness: an ill-formed term for each check (R97 (c)) -/

theorem test_wellFormed_refuses_long_md5_length : (Instr.md5DataAdd 0x1000 0x10000).wellFormed = false := by decide

theorem test_wellFormed_accepts_md5_length_65535 : (Instr.md5DataAdd 0x1000 0xFFFF).wellFormed = true := by decide

theorem test_wellFormed_refuses_position_beyond_70_bits :
    (Instr.chacha20PositionSet 0x40 0 0).wellFormed = false := by decide

theorem test_wellFormed_accepts_upper6_63 : (Instr.chacha20PositionSet 0x3F 0 0).wellFormed = true := by decide

/-! ### Decoding: one word per constructor, from R93 and R108 -/

theorem test_decode_md5Init : decode (.mk 0x00000000 9 9 9) = .ok .md5Init := by decide

theorem test_decode_md5DataAdd : decode (.mk 0x00000001 0x1000 3 9) = .ok (.md5DataAdd 0x1000 3) := by decide

theorem test_decode_md5Calc : decode (.mk 0x00000002 0x2000 9 9) = .ok (.md5Calc 0x2000) := by decide

theorem test_decode_sha256Init_sha224 : decode (.mk 0x00000010 9 9 9) = .ok (.sha256Init .sha224) := by decide

theorem test_decode_sha256Init_sha256 : decode (.mk 0x00000110 9 9 9) = .ok (.sha256Init .sha256) := by decide

theorem test_decode_sha256DataAdd :
    decode (.mk 0x00000011 0x1000 0xFFFFFFFF 9) = .ok (.sha256DataAdd 0x1000 0xFFFFFFFF) := by decide

theorem test_decode_sha256Calc : decode (.mk 0x00000012 0x2000 9 9) = .ok (.sha256Calc 0x2000) := by decide

theorem test_decode_sha512Init_sha384 : decode (.mk 0x00000020 9 9 9) = .ok (.sha512Init .sha384) := by decide

theorem test_decode_sha512Init_sha512 : decode (.mk 0x00000120 9 9 9) = .ok (.sha512Init .sha512) := by decide

theorem test_decode_sha512DataAdd :
    decode (.mk 0x00000021 0x1000 0xC8 9) = .ok (.sha512DataAdd 0x1000 200) := by decide

theorem test_decode_sha512Calc : decode (.mk 0x00000022 0x2000 9 9) = .ok (.sha512Calc 0x2000) := by decide

theorem test_decode_chacha20KeyExpand :
    decode (.mk 0x00002030 0x3000 0x3100 9) = .ok (.chacha20KeyExpand 0x3000 0x3100 32) := by decide

theorem test_decode_chacha20Encrypt :
    decode (.mk 0x00000031 0x5000 0x4000 0x41) = .ok (.chacha20Encrypt 0x5000 0x4000 65) := by decide

theorem test_decode_chacha20PositionSet :
    decode (.mk 0x00003F32 0xFFFFFFFF 0xFFFFFFC0 9) = .ok (.chacha20PositionSet 0x3F 0xFFFFFFFF 0xFFFFFFC0) := by
  decide

/-- V28, V29, V37, V38: frames that encode no command. -/
theorem test_decode_refuses :
    ([0x00000100, 0x00000003, 0x00000210, 0x00000111, 0x00000013, 0x00000220, 0x00000023, 0x00004032, 0x00000131,
      0x00000033, 0x00000040, 0x00012130, 0x80000000].all fun w => refusesFrame (.mk w 0 0 0)) = true := by decide

/-- V28: MD5_DATAADD with A1[31:16] not zero. -/
theorem test_decode_refuses_md5_length_65536 :
    decode (.mk 0x00000001 0x4000 0x00010000 0) = .error (.lengthTooLong 0x00010000) := by decide

/-- R91: the fields of the command word. -/
theorem test_fields :
    (fieldRsv 0x12345678, fieldMod 0x12345678, fieldEng 0x12345678, fieldFn 0x12345678) =
      (0x1234, 0x56, 0x7, 0x8) := by decide

/-- R90: W0 is in bits 31..0 of the frame read as one value. -/
theorem test_frameOfBits :
    frameOfBits 0x00000041000040000000500000000031 = .mk 0x31 0x5000 0x4000 0x41 := by decide

/-- The opcode table's first row, as the first frame after reset: MD5_INIT runs. -/
theorem test_withFetchWord_runs :
    nextWith (step (State.reset.withFetchWord 32 0)) (fun t => t.md5.phase = .accumulating) = true := by decide

/-! ### Byte order (R15) and memory (R65) -/

theorem test_le32 : le32 0x61 0x62 0x63 0x80 = 0x80636261 := by decide

theorem test_be32 : be32 0x61 0x62 0x63 0x80 = 0x61626380 := by decide

theorem test_be64 : be64 0x61 0x62 0x63 0x80 0 0 0 0 = 0x6162638000000000 := by decide

theorem test_bytes_of_word :
    (leByte (0x98500190 : Word) 0, beByte (0x98500190 : Word) 0, beByte (0x98500190 : Word) 3) =
      (0x90, 0x98, 0x90) := by decide

theorem test_memory_write_is_canonical :
    ((Memory.write [] 7 1).write 5 2).write 7 0 = [(5, 2)] := by decide

/-! ### MD5 -/

/-- V20: the first round of the block of "abc". -/
theorem test_md5_first_round :
    md5Round (md5Words (Vector.ofFn fun i => (abc ++ [0x80]).getD i.val 0))
        { a := 0x67452301, b := 0xefcdab89, c := 0x98badcfe, d := 0x10325476 } 0 =
      { a := 0x10325476, b := 0xd6d117b4, c := 0xefcdab89, d := 0x98badcfe } := by decide +kernel

/-- R133: the index sequences it prints. -/
theorem test_md5_index_sequences :
    (List.range 48).map (fun i => md5Index (16 + i)) =
      [1, 6, 11, 0, 5, 10, 15, 4, 9, 14, 3, 8, 13, 2, 7, 12] ++
      [5, 8, 11, 14, 1, 4, 7, 10, 13, 0, 3, 6, 9, 12, 15, 2] ++
      [0, 7, 14, 5, 12, 3, 10, 1, 8, 15, 6, 13, 4, 11, 2, 9] := by decide

/-- V1: MD5 of the empty message. -/
theorem test_md5Calc_empty :
    nextWith (exec (.md5Calc 0x2000) ready) (fun t => t.mem.readBytes 0x2000 16 =
      [0xd4, 0x1d, 0x8c, 0xd9, 0x8f, 0x00, 0xb2, 0x04, 0xe9, 0x80, 0x09, 0x98, 0xec, 0xf8, 0x42, 0x7e]) = true := by
  decide +kernel

/-- V23, L = 56: the marker and the length field need two blocks. -/
theorem test_md5Calc_two_blocks :
    nextWith (exec (.md5Calc 0x2000) { ready with md5 := { md5Fresh with total := 56, buf := aBlock 64 56 } })
      (fun t => t.mem.readBytes 0x2000 16 =
        [0x3b, 0x0c, 0x8a, 0xc7, 0x03, 0xf8, 0x28, 0xb0, 0x4c, 0x6c, 0x19, 0x70, 0x06, 0xd1, 0x72, 0x18]) = true := by
  decide +kernel

/-- R136's example: three bytes go to the partial block, no compression. -/
theorem test_md5DataAdd_abc :
    nextWith (exec (.md5DataAdd 0x1000 3) (withData abc))
      (fun t => t.md5.total = 3 && t.md5.buf.toList.take 3 = abc && t.md5.h = md5Iv) = true := by decide +kernel

/-- V23, L = 64: the 64th byte compresses the block at once. -/
theorem test_md5DataAdd_block_boundary :
    nextWith
      (exec (.md5DataAdd 0x1000 1)
        { withData [0x61] with md5 := { md5Fresh with total := 63, buf := aBlock 64 63 } })
      (fun t => t.md5.h = #v[0x89d4ff56, 0x125cd962, 0x69cade33, 0x0033e325] && t.md5.total = 64) = true := by
  decide +kernel

/-- V26: the length fields. -/
theorem test_length_fields :
    md5LengthField 0x20000000 = [0, 0, 0, 0, 1, 0, 0, 0] ∧
      md5LengthField 0xFFFFFFFF = [0xf8, 0xff, 0xff, 0xff, 0x07, 0, 0, 0] ∧
      sha256LengthField 0xFFFFFFFF = [0, 0, 0, 0x07, 0xff, 0xff, 0xff, 0xf8] ∧
      sha512LengthField 0x100000000 = List.replicate 11 0 ++ [0x08, 0, 0, 0, 0] ∧
      sha512LengthField 0xFFFFFFFFFFFFFFFF =
        List.replicate 7 0 ++ [0x07, 0xff, 0xff, 0xff, 0xff, 0xff, 0xff, 0xff, 0xf8] := by decide

/-- V27: the 32-bit counter wraps with no signal. -/
theorem test_md5_counter_wraps :
    nextWith (exec (.md5DataAdd 0x1000 1) { ready with md5 := { md5Fresh with total := 0xFFFFFFFF } })
      (fun t => t.md5.total = 0 && t.resp = 0) = true := by decide +kernel

/-- V28: a second MD5_CALC, an MD5_DATAADD after reset, and pointer 0 with length 0 are refused. -/
theorem test_md5_undefined_uses :
    exec (.md5Calc 0x2000) { ready with md5 := { md5Fresh with phase := .finalized } } =
        .refused (.contextFinalized .md5) ∧
      exec (.md5DataAdd 0x1000 1) State.reset = .refused (.contextUninitialized .md5) ∧
      exec (.md5DataAdd 0 0) ready = .refused (.invalidBuffer 0 0 .nullPointer) := ⟨rfl, rfl, rfl⟩

/-! ### SHA-256 and SHA-224 -/

/-- V21: words of the schedule of "abc". -/
theorem test_sha256_schedule :
    (let w := sha256Schedule (Vector.ofFn fun i => if i.val = 63 then 0x18 else (abc ++ [0x80]).getD i.val 0)
     [w.getD 16 0, w.getD 17 0, w.getD 18 0, w.getD 19 0, w.getD 63 0]) =
      [0x61626380, 0x000f0000, 0x7da86405, 0x600003c6, 0x12b1edeb] := by decide +kernel

/-- V2: SHA-256 of the empty message, first and last word, and no byte after the 32nd. -/
theorem test_sha256Calc_empty :
    nextWith (exec (.sha256Calc 0x2000) ready) (fun t =>
      t.mem.readBytes 0x2000 4 = [0xe3, 0xb0, 0xc4, 0x42] &&
      t.mem.readBytes 0x201C 8 = [0x78, 0x52, 0xb8, 0x55, 0, 0, 0, 0]) = true := by decide +kernel

/-- V24, SHA-224, L = 56: two blocks, 28 bytes. -/
theorem test_sha224Calc_two_blocks :
    nextWith
      (exec (.sha256Calc 0x2000)
        { ready with s256 := { sha256Fresh .sha224 with total := 56, buf := aBlock 64 56 } })
      (fun t => t.mem.readBytes 0x2000 4 = [0xd4, 0x08, 0x54, 0xfc] &&
        t.mem.readBytes 0x2018 8 = [0x9f, 0x82, 0x0d, 0xcd, 0, 0, 0, 0]) = true := by decide +kernel

/-- R166's example: the initial value of SHA-224. -/
theorem test_sha256Init_sha224 :
    nextWith (exec (.sha256Init .sha224) State.reset)
      (fun t => t.s256.h[0] = 0xC1059ED8 && t.s256.h[7] = 0xBEFA4FA4 && t.s256.variant = .sha224) = true := by
  decide

/-- The 64th byte of a block compresses it at once (R167). -/
theorem test_sha256DataAdd_block_boundary :
    nextWith
      (exec (.sha256DataAdd 0x1000 2)
        { withData [0x61, 0x62] with s256 := { sha256Fresh .sha256 with total := 63, buf := aBlock 64 63 } })
      (fun t => t.s256.total = 65 && t.s256.buf[0] = 0x62 &&
        t.s256.h = sha256Compress sha256Iv256 (aBlock 64 64)) = true := by decide +kernel

/-! ### SHA-512 and SHA-384 -/

/-- V22: words of the schedule of "abc". -/
theorem test_sha512_schedule :
    (let w := sha512Schedule (Vector.ofFn fun i => if i.val = 127 then 0x18 else (abc ++ [0x80]).getD i.val 0)
     [w.getD 16 0, w.getD 17 0, w.getD 18 0, w.getD 79 0]) =
      [0x6162638000000000, 0x00030000000000c0, 0x0a9699a24c700003, 0x92aeeed1a7bcf7d2] := by decide +kernel

/-- V5: SHA-512 of the empty message, first word and end. -/
theorem test_sha512Calc_empty :
    nextWith (exec (.sha512Calc 0x2000) ready) (fun t =>
      t.mem.readBytes 0x2000 4 = [0xcf, 0x83, 0xe1, 0x35] &&
      t.mem.readBytes 0x203C 6 = [0xf9, 0x27, 0xda, 0x3e, 0, 0]) = true := by decide +kernel

/-- V25, SHA-384, L = 112: two blocks, 48 bytes. -/
theorem test_sha384Calc_two_blocks :
    nextWith
      (exec (.sha512Calc 0x2000)
        { ready with s512 := { sha512Fresh .sha384 with total := 112, buf := aBlock 128 112 } })
      (fun t => t.mem.readBytes 0x2000 4 = [0x18, 0x7d, 0x4e, 0x07] &&
        t.mem.readBytes 0x202C 6 = [0x8f, 0x79, 0x1f, 0xcd, 0, 0]) = true := by decide +kernel

/-- R196's example: the initial value of SHA-384. -/
theorem test_sha512Init_sha384 :
    nextWith (exec (.sha512Init .sha384) State.reset)
      (fun t => t.s512.h[0] = 0xCBBB9D5DC1059ED8 && t.s512.phase = .accumulating) = true := by decide

/-- V27: the counter wraps at its width, 32 bits or 64. -/
theorem test_sha512_counter_width :
    let s := { ready with s512 := { sha512Fresh .sha512 with total := 0xFFFFFFFF } }
    nextWith (exec (.sha512DataAdd 0x1000 1) { s with platform := { s.platform with sha512CounterBits := 32 } })
        (fun t => t.s512.total = 0) = true ∧
      nextWith (exec (.sha512DataAdd 0x1000 1) s) (fun t => t.s512.total = 0x100000000) = true := by
  constructor <;> decide +kernel

/-! ### The tables of SHA-2 against their defining formulas (R160, R161, R190, R191) -/

/-- The first 80 primes, as the numbers that no smaller number from 2 on divides. -/
def primes : List Nat := (List.range 410).filter fun p => 2 ≤ p && (List.range p).all fun d => d < 2 || p % d != 0

/-- `k` is the first `bits` bits of the fractional part of the `power`-th root of `p`: with some whole part `q`, the
number q : k is the root scaled by 2^bits and rounded down. -/
def isRootFraction (power bits p k : Nat) : Bool :=
  (List.range 10).any fun q =>
    (q * 2 ^ bits + k) ^ power ≤ p * 2 ^ (power * bits) && p * 2 ^ (power * bits) < (q * 2 ^ bits + k + 1) ^ power

/-- The formulas that R160 and R161 give for IV256 and K256. -/
theorem test_sha256_tables_meet_their_formulas :
    primes.length = 80 ∧ sha256K.length = 64 ∧
      ((primes.zip sha256K).all fun e => isRootFraction 3 32 e.1 e.2.toNat) = true ∧
      ((primes.zip sha256Iv256.toList).all fun e => isRootFraction 2 32 e.1 e.2.toNat) = true := by decide +kernel

/-- The formulas that R190 and R191 give for IV512, IV384 and K512, and R160 for IV224. -/
theorem test_sha512_tables_meet_their_formulas :
    sha512K.length = 80 ∧
      ((primes.zip sha512K).all fun e => isRootFraction 3 64 e.1 e.2.toNat) = true ∧
      ((primes.zip sha512Iv512.toList).all fun e => isRootFraction 2 64 e.1 e.2.toNat) = true ∧
      (((primes.drop 8).zip sha512Iv384.toList).all fun e => isRootFraction 2 64 e.1 e.2.toNat) = true ∧
      sha256Iv224.toList = sha512Iv384.toList.map (·.setWidth 32) := by decide +kernel
/-! ### ChaCha20 -/

/-- V30: quarter-rounds. -/
theorem test_quarterRound :
    chachaQuarterWords { a := 0x11111111, b := 0x01020304, c := 0x9b8d6f43, d := 0x01234567 } =
        { a := 0xea2a92f4, b := 0xcb1cf8ce, c := 0x4581472e, d := 0x5881c4bb } ∧
      chachaQuarterWords { a := 1, b := 0, c := 0, d := 0 } =
        { a := 0x10000001, b := 0x80808808, c := 0x01010110, d := 0x01000110 } := by decide +kernel

/-- V31: the working array after the four column quarter-rounds, columns 0 and 3. -/
theorem test_columns :
    (let x := chachaColumns #v[0x61707865, 0x3320646e, 0x79622d32, 0x6b206574, 0, 0, 0, 0, 0, 0, 0, 0, 0, 0, 0, 0]
     [x[0], x[4], x[8], x[12], x[3], x[15]]) =
      [0xb7877feb, 0x4a7d5c86, 0x5a83fd3f, 0xe21e9bcf, 0xb1d26bcb, 0xa600ebd4] := by decide +kernel

/-- V33: key expansion of a non-zero key and nonce. -/
theorem test_keyExpand_v33 :
    nextWith (exec (.chacha20KeyExpand 0x3000 0x3100 32) (State.reset.withMem keyMemory))
      (fun t => t.cc = v33Context 0 0 0 v33Block0) = true := by decide +kernel

/-- V33: a 16-byte key takes tau and repeats its words. -/
theorem test_keyExpand_16 :
    nextWith (exec (.chacha20KeyExpand 0x3000 0x3100 16) (State.reset.withMem keyMemory))
      (fun t => t.cc.key = #v[0x61707865, 0x3120646e, 0x79622d36, 0x6b206574, 0x03020100, 0x07060504, 0x0b0a0908,
        0x0f0e0d0c, 0x03020100, 0x07060504, 0x0b0a0908, 0x0f0e0d0c, 0, 0, 0x09000000, 0x4a000000]) = true := by
  decide +kernel

/-- V15: key lengths that fail. -/
theorem test_keyExpand_bad_lengths :
    ([0, 8, 24, 33, 255].all fun l =>
      nextWith (exec (.chacha20KeyExpand 0 0 l) State.reset) (fun t => t.resp = 1 && !t.cc.keyed)) = true := by decide

/-- P5, step 5: four zero bytes encrypt to the start of the keystream. -/
theorem test_encrypt_start :
    nextWith (exec (.chacha20Encrypt 0x5000 0x4000 4) { State.reset with cc := v33Context 0 0 0 v33Block0 })
      (fun t => t.mem = [(0x5000, 0x61), (0x5001, 0x46), (0x5002, 0xf2), (0x5003, 0x56)] && t.cc.off = 4) = true := by
  decide +kernel

/-- V34: at offset 64 the counter steps before the next byte is used. -/
theorem test_encrypt_lazy_regeneration :
    nextWith (exec (.chacha20Encrypt 0x5000 0x4000 1) { State.reset with cc := v33Context 0 0 64 v33Block0 })
      (fun t => t.mem = [(0x5000, 0x98)] && t.cc.key[12] = 1 && t.cc.ks[0] = 0x637af198 && t.cc.off = 1) = true := by
  decide +kernel

/-- V35: the last block's end wraps the 64-bit counter and leaves the nonce alone. -/
theorem test_encrypt_counter_wraps :
    chachaCounterIncrement (v33Context 0xffffffff 0 0 v33Block0).key = (v33Context 0 1 0 v33Block0).key ∧
      chachaCounterIncrement (v33Context 0xffffffff 0xffffffff 0 v33Block0).key =
        (v33Context 0 0 0 v33Block0).key := by decide +kernel

/-- V36: positions to counter and offset. -/
theorem test_positions :
    ([((0x2A : Byte), (0x12345678 : Word), (0x9abcdef0 : Word)), (0, 1, 0), (1, 0, 0), (0, 0, 0x41),
        (0x3F, 0xffffffff, 0xffffffff)].map fun p =>
      let q := streamPosition p.1 p.2.1 p.2.2
      (positionCounterLow q, positionCounterHigh q, positionOffset q)) =
      [(0xe26af37b, 0xa848d159, 48), (0x04000000, 0, 0), (0, 0x04000000, 0), (1, 0, 1),
        (0xffffffff, 0xffffffff, 63)] := by decide

/-- V13, N = 64: POSITIONSET regenerates the block of counter 1. -/
theorem test_positionSet_regenerates :
    nextWith (exec (.chacha20PositionSet 0 0 64) { State.reset with cc := v33Context 0 0 0 v33Block0 })
      (fun t => t.cc.key[12] = 1 && t.cc.off = 0 && t.cc.ks[0] = 0x637af198) = true := by decide +kernel

/-- V37: no key, partial overlap, in place. -/
theorem test_encrypt_undefined_uses :
    exec (.chacha20Encrypt 0x5000 0x4000 1) State.reset = .refused .chachaNotKeyed ∧
      exec (.chacha20Encrypt 0x5001 0x5000 16) { State.reset with cc := v33Context 0 0 0 v33Block0 } =
        .refused (.partialOverlap 0x5001 0x5000 16) ∧
      nextWith (exec (.chacha20Encrypt 0x5000 0x5000 1) { State.reset with cc := v33Context 0 0 0 v33Block0 })
        (fun t => t.resp = 0) = true := ⟨rfl, rfl, by decide +kernel⟩

/-! ### Steps -/

/-- R263: decoding comes before the key length. -/
theorem test_step_illegal_before_key_length :
    nextWith (step (State.reset.withInput [.issue (.mk 0x00012130 0 0 0)])) (fun t => t.resp = 2) = true := by decide

/-- R62: a range that passes the top of the address space, and one outside `ValidAddr` (V's 0x1000..0xFFFF). -/
theorem test_bufferError :
    let pl : Platform := { valid := [{ base := 0x1000, size := 0xF000 }], sha512CounterBits := 64 }
    bufferError pl 0xFFFFFFF8 9 = some .wraps ∧ bufferError pl 0xFFF1 16 = some .notMapped ∧
      bufferError pl 0xFFF0 16 = none ∧ bufferError pl 0 0 = some .nullPointer := by decide

end Sys2Proof.Tests
end

