-- ==== Sys2Proof/Tests/Witnesses.lean ====
section
/-! SUPPORT. For every statement with hypotheses, a concrete state and operands that meet all of them together; for a
statement of several clauses, a witness for each. -/

namespace Sys2Proof.Tests

open Sys2Proof.Machine

/-! ### Shared witnesses -/

/-- With the whole address space valid, a buffer is valid when its pointer is not 0 and it does not wrap. -/
theorem ready_buffer_valid {p : Word} {n : Nat} (h0 : p ≠ 0) (h : p.toNat + n ≤ 2 ^ 32) :
    BufferValid ready.platform p n := by
  refine ⟨h0, h, fun k hk => ?_⟩
  have hp : ready.platform.valid = [{ base := 0, size := 2 ^ 32 }] := rfl
  simp only [validAddr, hp, List.any_cons, List.any_nil, Bool.or_false, regionContains, Bool.and_eq_true,
    decide_eq_true_eq]
  omega

/-- No buffer is valid at pointer 0. -/
theorem null_buffer_invalid (pl : Platform) (n : Nat) : ¬BufferValid pl 0 n := fun h => h.1 rfl

theorem ready_coherent : chachaCoherent ready.cc :=
  fun _ => ⟨rfl, .inl ⟨rfl, rfl, rfl, rfl⟩⟩

theorem ready_inv : ready.Inv :=
  ⟨Memory.wf_nil, by decide, .inl rfl, by decide, ready_coherent, by decide⟩

theorem ready_md5Absorbed : md5Absorbed ready.md5 [] := ⟨rfl, rfl, rfl, fun i h => absurd h (by simp)⟩

theorem ready_sha256Absorbed : sha256Absorbed ready.s256 [] := ⟨rfl, rfl, rfl, fun i h => absurd h (by simp)⟩

theorem ready_sha512Absorbed : sha512Absorbed ready.platform.sha512CounterBits ready.s512 [] :=
  ⟨rfl, rfl, rfl, fun i h => absurd h (by simp)⟩

/-! ### Encoding -/

theorem witness_DecodeOfEncode :
    (Instr.md5DataAdd 0x1000 0xFFFF).wellFormed = true ∧ (Instr.chacha20PositionSet 0x3F 0 0).wellFormed = true := by
  decide

theorem witness_DecodeRefusesExactlyIllegalFrames :
    refIllegal (.mk 0x00010000 0 0 0) ∧ refIllegal (.mk 0x00000003 0 0 0) ∧ refIllegal (.mk 0x00000210 0 0 0) ∧
      refIllegal (.mk 0x00000001 0 0x00010000 0) ∧ ¬refIllegal (.mk 0x0000FF30 0 0 0) := by
  unfold refIllegal
  decide

theorem witness_DecodedCommandReencodes :
    decode (.mk 0x00000031 0x5000 0x4000 0xFFFFFFFF) = .ok (.chacha20Encrypt 0x5000 0x4000 0xFFFFFFFF) := by decide

theorem witness_UnusedOperandWordsIgnored :
    decode (.mk 0x00000002 0x2000 0 0) = .ok (.md5Calc 0x2000) ∧ operandWords (.md5Calc 0x2000) = 1 ∧
      decode (.mk 0x00000002 0x2000 5 6) = .ok (.md5Calc 0x2000) := by decide

/-! ### Steps -/

theorem witness_StepRunsDecodedFrame :
    (ready.withInput [.issue (.mk 0x00000002 0x2000 0 0)]).input = .issue (.mk 0x00000002 0x2000 0 0) :: [] ∧
      decode (.mk 0x00000002 0x2000 0 0) = .ok (.md5Calc 0x2000) := by decide

theorem witness_IllegalFrameRaisesIllegalCommand :
    (ready.withInput [.issue (.mk 0x80000000 0 0 0)]).input = .issue (.mk 0x80000000 0 0 0) :: [] ∧
      refIllegal (.mk 0x80000000 0 0 0) := by
  unfold refIllegal
  decide

theorem witness_IdleBlockHoldsItsState : State.reset.input = [] := rfl

theorem witness_ResetActionGivesResetValues : (ready.withInput [.reset]).input = .reset :: [] := rfl

theorem witness_HostWriteAction :
    (ready.withInput [.writeByte 0xFFFFFFFF 7]).input = .writeByte 0xFFFFFFFF 7 :: [] ∧
      validAddr ready.platform (0xFFFFFFFF : Word).toNat = true ∧
      validAddr { ready.platform with valid := [] } (0xFFFFFFFF : Word).toNat = false := by decide

/-! ### E_DATAADD -/

theorem witness_Md5DataAddOneByte :
    ready.md5.phase = .accumulating ∧ BufferValid ready.platform 0xFFFFFFFF 1 :=
  ⟨rfl, ready_buffer_valid (by decide) (by decide)⟩

theorem witness_Sha256DataAddOneByte :
    ready.s256.phase = .accumulating ∧ BufferValid ready.platform 0xFFFFFFFF 1 :=
  ⟨rfl, ready_buffer_valid (by decide) (by decide)⟩

theorem witness_Sha512DataAddOneByte :
    ready.s512.phase = .accumulating ∧ BufferValid ready.platform 0xFFFFFFFF 1 :=
  ⟨rfl, ready_buffer_valid (by decide) (by decide)⟩

theorem witness_ZeroLengthChangesOnlyResp :
    (1 : Word) ≠ 0 ∧ (0xFFFFFFFF : Word) ≠ 0 ∧ ready.md5.phase = .accumulating ∧ ready.s256.phase = .accumulating ∧
      ready.s512.phase = .accumulating ∧ ready.cc.keyed = true := ⟨by decide, by decide, rfl, rfl, rfl, rfl⟩

theorem witness_DataAddSplitsAnywhere :
    0 < 1 ∧ BufferValid ready.platform 0x1000 (65534 + 1) ∧ 65534 + 1 ≤ 65535 :=
  ⟨by decide, ready_buffer_valid (by decide) (by decide), by decide⟩

theorem witness_DataAddSplitsAnywhere_to_the_top :
    0 < 0x7FFFFFFF ∧ BufferValid ready.platform 0x1 (0x80000000 + 0x7FFFFFFF) :=
  ⟨by decide, ready_buffer_valid (by decide) (by decide)⟩

theorem witness_Md5DataAddCompletes :
    ready.md5.phase = .accumulating ∧ BufferValid ready.platform 0x1000 ((0xFFFF : Word).toNat % 65536) :=
  ⟨rfl, ready_buffer_valid (by decide) (by decide)⟩

theorem witness_Sha256DataAddCompletes :
    ready.s256.phase = .accumulating ∧ BufferValid ready.platform 1 (0xFFFFFFFF : Word).toNat :=
  ⟨rfl, ready_buffer_valid (by decide) (by decide)⟩

theorem witness_Sha512DataAddCompletes :
    ready.s512.phase = .accumulating ∧ BufferValid ready.platform 1 (0xFFFFFFFF : Word).toNat ∧
      ready.platform.sha512CounterBits ≤ 128 ∧ ready.s512.total.toNat < 2 ^ ready.platform.sha512CounterBits :=
  ⟨rfl, ready_buffer_valid (by decide) (by decide), by decide, by decide⟩

/-! ### E_CALC -/

theorem witness_Md5CalcResult : ready.md5.phase = .accumulating ∧ BufferValid ready.platform 0xFFFFFFF0 16 :=
  ⟨rfl, ready_buffer_valid (by decide) (by decide)⟩

theorem witness_Sha256CalcResult :
    ready.s256.phase = .accumulating ∧ 32 = (if ready.s256.variant = .sha224 then 28 else 32) ∧
      BufferValid ready.platform 0xFFFFFFE0 32 :=
  ⟨rfl, rfl, ready_buffer_valid (by decide) (by decide)⟩

theorem witness_Sha256CalcResult_sha224 :
    (ready.withS256 (sha256Fresh .sha224)).s256.phase = .accumulating ∧
      28 = (if (ready.withS256 (sha256Fresh .sha224)).s256.variant = .sha224 then 28 else 32) ∧
      BufferValid (ready.withS256 (sha256Fresh .sha224)).platform 0xFFFFFFE4 28 :=
  ⟨rfl, rfl, ready_buffer_valid (by decide) (by decide)⟩

theorem witness_Sha512CalcResult :
    ready.s512.phase = .accumulating ∧ 64 = (if ready.s512.variant = .sha384 then 48 else 64) ∧
      BufferValid ready.platform 0xFFFFFFC0 64 :=
  ⟨rfl, rfl, ready_buffer_valid (by decide) (by decide)⟩

theorem witness_Sha512CalcResult_sha384 :
    (ready.withS512 (sha512Fresh .sha384)).s512.phase = .accumulating ∧
      48 = (if (ready.withS512 (sha512Fresh .sha384)).s512.variant = .sha384 then 48 else 64) ∧
      BufferValid (ready.withS512 (sha512Fresh .sha384)).platform 0xFFFFFFD0 48 :=
  ⟨rfl, rfl, ready_buffer_valid (by decide) (by decide)⟩

/-! ### Streaming -/

theorem witness_Md5StreamingIsOneShot :
    md5Absorbed ready.md5 [] ∧ BufferValid ready.platform 0x1000 ((0xFFFF : Word).toNat % 65536) ∧
      BufferValid ready.platform 0xFFFFFFF0 16 :=
  ⟨ready_md5Absorbed, ready_buffer_valid (by decide) (by decide), ready_buffer_valid (by decide) (by decide)⟩

theorem witness_Sha256StreamingIsOneShot :
    sha256Absorbed ready.s256 [] ∧ BufferValid ready.platform 1 (0xFFFFFFFF : Word).toNat ∧
      32 = (if ready.s256.variant = .sha224 then 28 else 32) ∧ BufferValid ready.platform 0xFFFFFFE0 32 :=
  ⟨ready_sha256Absorbed, ready_buffer_valid (by decide) (by decide), rfl,
    ready_buffer_valid (by decide) (by decide)⟩

theorem witness_Sha512StreamingIsOneShot :
    7 ≤ ready.platform.sha512CounterBits ∧ ready.platform.sha512CounterBits ≤ 128 ∧
      sha512Absorbed ready.platform.sha512CounterBits ready.s512 [] ∧
      BufferValid ready.platform 1 (0xFFFFFFFF : Word).toNat ∧
      64 = (if ready.s512.variant = .sha384 then 48 else 64) ∧ BufferValid ready.platform 0xFFFFFFC0 64 :=
  ⟨by decide, by decide, ready_sha512Absorbed, ready_buffer_valid (by decide) (by decide), rfl,
    ready_buffer_valid (by decide) (by decide)⟩

/-! ### ChaCha20 -/

theorem witness_BadKeyLengthChangesOnlyResp : (33 : Byte).toNat ≠ 16 ∧ (33 : Byte).toNat ≠ 32 := by decide

theorem witness_BadKeyLengthChangesOnlyResp_success :
    ((16 : Byte).toNat = 16 ∨ (16 : Byte).toNat = 32) ∧ BufferValid ready.platform 0xFFFFFFF8 8 ∧
      BufferValid ready.platform 0xFFFFFFF0 (16 : Byte).toNat :=
  ⟨by decide, ready_buffer_valid (by decide) (by decide), ready_buffer_valid (by decide) (by decide)⟩

theorem witness_KeyExpandResult :
    ((32 : Byte).toNat = 16 ∨ (32 : Byte).toNat = 32) ∧ BufferValid ready.platform 0xFFFFFFF8 8 ∧
      BufferValid ready.platform 0xFFFFFFE0 (32 : Byte).toNat :=
  ⟨by decide, ready_buffer_valid (by decide) (by decide), ready_buffer_valid (by decide) (by decide)⟩

theorem witness_KeyExpandResult_16 :
    ((16 : Byte).toNat = 16 ∨ (16 : Byte).toNat = 32) ∧ BufferValid ready.platform 1 8 ∧
      BufferValid ready.platform 1 (16 : Byte).toNat :=
  ⟨by decide, ready_buffer_valid (by decide) (by decide), ready_buffer_valid (by decide) (by decide)⟩

theorem witness_PositionSetResult :
    ready.cc.keyed = true ∧
      2 ^ 70 - 1 =
        (0x3F : Byte).toNat % 64 * 2 ^ 64 + (0xFFFFFFFF : Word).toNat * 2 ^ 32 + (0xFFFFFFFF : Word).toNat :=
  ⟨rfl, by decide⟩

theorem witness_EncryptCompletesAndFrames :
    ready.cc.keyed = true ∧ BufferValid ready.platform 0x5000 (0x1000 : Word).toNat ∧
      BufferValid ready.platform 0x4000 (0x1000 : Word).toNat ∧
      refOverlapAllowed 0x5000 0x4000 (0x1000 : Word).toNat :=
  ⟨rfl, ready_buffer_valid (by decide) (by decide), ready_buffer_valid (by decide) (by decide),
    .inr (.inr (by decide))⟩

theorem witness_EncryptOneByte :
    ready.cc.keyed = true ∧ ready.cc.off.toNat ≤ 64 ∧ ready.cc.off.toNat < 64 ∧
      BufferValid ready.platform 0xFFFFFFFF 1 ∧ BufferValid ready.platform 1 1 :=
  ⟨rfl, by decide, by decide, ready_buffer_valid (by decide) (by decide),
    ready_buffer_valid (by decide) (by decide)⟩

theorem witness_EncryptOneByte_exhausted_block :
    let s := ready.withCc { ready.cc with off := 64 }
    s.cc.keyed = true ∧ s.cc.off.toNat = 64 ∧ BufferValid s.platform 0x5000 1 ∧ BufferValid s.platform 0x5000 1 :=
  ⟨rfl, rfl, ready_buffer_valid (by decide) (by decide), ready_buffer_valid (by decide) (by decide)⟩

theorem witness_EncryptSplitsAnywhere :
    0 < 1 ∧ BufferValid ready.platform 1 (0xFFFFFFFE + 1) ∧ BufferValid ready.platform 1 (0xFFFFFFFE + 1) ∧
      refOverlapAllowed 1 1 (0xFFFFFFFE + 1) :=
  ⟨by decide, ready_buffer_valid (by decide) (by decide), ready_buffer_valid (by decide) (by decide), .inl rfl⟩

theorem witness_EncryptXorsKeystreamAtPosition :
    ready.cc.keyed = true ∧ ready.cc.off.toNat ≤ 64 ∧ ready.cc.ks = chachaBlock ready.cc.key ∧
      BufferValid ready.platform 0x5000 (65 : Word).toNat ∧ BufferValid ready.platform 0x4000 (65 : Word).toNat ∧
      refOverlapAllowed 0x5000 0x4000 (65 : Word).toNat :=
  ⟨rfl, by decide, rfl, ready_buffer_valid (by decide) (by decide), ready_buffer_valid (by decide) (by decide),
    .inr (.inr (by decide))⟩

theorem witness_EncryptThenDecryptRestores :
    ready.cc.keyed = true ∧ ready.cc.off.toNat ≤ 64 ∧ ready.cc.ks = chachaBlock ready.cc.key ∧
      BufferValid ready.platform 0x5000 (65 : Word).toNat ∧
      (0 : Byte).toNat % 64 * 2 ^ 64 + (0 : Word).toNat * 2 ^ 32 + (0 : Word).toNat =
        (keystreamPosition ready.cc).toNat :=
  ⟨rfl, by decide, rfl, ready_buffer_valid (by decide) (by decide), by decide⟩

theorem witness_QuarterRoundOrderImmaterial :
    ([(3, 7, 11, 15), (0, 4, 8, 12), (2, 6, 10, 14), (1, 5, 9, 13)] :
        List (Fin 16 × Fin 16 × Fin 16 × Fin 16)).Perm
      [(0, 4, 8, 12), (1, 5, 9, 13), (2, 6, 10, 14), (3, 7, 11, 15)] ∧
    ([(3, 4, 9, 14), (0, 5, 10, 15), (2, 7, 8, 13), (1, 6, 11, 12)] :
        List (Fin 16 × Fin 16 × Fin 16 × Fin 16)).Perm
      [(0, 5, 10, 15), (1, 6, 11, 12), (2, 7, 8, 13), (3, 4, 9, 14)] := by decide

/-! ### Undefined uses -/

/-- `ready` with the three hash contexts in one phase. -/
def inPhase (p : Phase) : State :=
  { ready with
    md5 := { md5Fresh with phase := p }
    s256 := { sha256Fresh .sha256 with phase := p }
    s512 := { sha512Fresh .sha512 with phase := p } }

theorem witness_CompletesExactlyWhenDefined :
    ¬refUndefined ready (.md5Calc 0xFFFFFFF0) ∧ refUndefined ready (.md5Calc 0) ∧
      refUndefined (inPhase .finalized) (.md5Calc 0xFFFFFFF0) :=
  ⟨fun h => h.elim (fun h => h rfl) (fun h => h (ready_buffer_valid (by decide) (by decide))),
    .inr (null_buffer_invalid _ _), .inl (by decide)⟩

theorem witness_HashCommandsRefusedOutOfPhase :
    ((inPhase .finalized).md5.phase = .finalized ∧ (inPhase .finalized).s256.phase = .finalized ∧
        (inPhase .finalized).s512.phase = .finalized) ∧
      (inPhase .uninitialized).md5.phase = .uninitialized ∧ (inPhase .uninitialized).s256.phase = .uninitialized ∧
      (inPhase .uninitialized).s512.phase = .uninitialized := ⟨⟨rfl, rfl, rfl⟩, rfl, rfl, rfl⟩

theorem witness_UnkeyedChachaRefused : State.reset.cc.keyed = false := rfl

theorem witness_InvalidBufferRefused :
    ready.md5.phase = .accumulating ∧ ready.s256.phase = .accumulating ∧ ready.s512.phase = .accumulating ∧
      ready.cc.keyed = true ∧ ¬BufferValid ready.platform 0 0 ∧ ¬BufferValid ready.platform 0 16 ∧
      ¬BufferValid ready.platform 0 (if ready.s256.variant = .sha224 then 28 else 32) ∧
      ¬BufferValid ready.platform 0 (if ready.s512.variant = .sha384 then 48 else 64) ∧
      ¬BufferValid ready.platform 0 8 ∧ ¬BufferValid ready.platform 0xFFFFFFF1 16 :=
  ⟨rfl, rfl, rfl, rfl, null_buffer_invalid _ _, null_buffer_invalid _ _, null_buffer_invalid _ _,
    null_buffer_invalid _ _, null_buffer_invalid _ _, fun h => absurd h.2.1 (by decide)⟩

theorem witness_PartialOverlapRefused :
    ready.cc.keyed = true ∧ BufferValid ready.platform 0x5001 (2 : Word).toNat ∧
      BufferValid ready.platform 0x5000 (2 : Word).toNat ∧ ¬refOverlapAllowed 0x5001 0x5000 (2 : Word).toNat :=
  ⟨rfl, ready_buffer_valid (by decide) (by decide), ready_buffer_valid (by decide) (by decide), by
    unfold refOverlapAllowed
    decide⟩

/-! ### Rules of the whole block -/

/-- A command that completes: the hypothesis of the rules over all commands. -/
theorem witness_completing_command : ∃ t, exec .md5Init ready = .next t := ⟨_, rfl⟩

/-- A command that writes memory and completes. -/
theorem witness_completing_store : ∃ t, exec (.md5Calc 0xFFFFFFF0) ready = .next t :=
  ⟨_, (execMd5Calc_next _ _ _).mpr ⟨rfl, ready_buffer_valid (by decide) (by decide), rfl⟩⟩

theorem witness_CommandsTouchOneEngine :
    (∃ t, exec .md5Init ready = .next t) ∧ engineOf .md5Init ≠ .sha256 ∧ engineOf .md5Init ≠ .sha512 ∧
      engineOf .md5Init ≠ .chacha20 ∧ (∃ t, exec (.sha256Init .sha224) ready = .next t) ∧
      engineOf (.sha256Init .sha224) ≠ .md5 := ⟨⟨_, rfl⟩, by decide, by decide, by decide, ⟨_, rfl⟩, by decide⟩

theorem witness_OtherEnginesNeverRead :
    engineOf (.sha256Calc 0x2000) ≠ .md5 ∧ engineOf (.md5Calc 0x2000) ≠ .sha256 ∧
      engineOf (.md5Calc 0x2000) ≠ .sha512 ∧ engineOf (.md5Calc 0x2000) ≠ .chacha20 := by decide

theorem witness_OnlyWrittenBufferChanges :
    (∃ t, exec (.md5Calc 0xFFFFFFF0) ready = .next t) ∧
      0xFFFFFFEF < (writtenBuffer ready (.md5Calc 0xFFFFFFF0)).1 := ⟨witness_completing_store, by decide⟩

theorem witness_ResponseOfEveryCommand :
    (∃ t, exec .md5Init ready = .next t) ∧ ∃ t, exec (.chacha20KeyExpand 0 0 33) ready = .next t :=
  ⟨⟨_, rfl⟩, ⟨_, rfl⟩⟩

theorem witness_PhaseMachine :
    (∃ t, exec .md5Init ready = .next t) ∧ ∃ t, exec (.md5Calc 0xFFFFFFF0) ready = .next t :=
  ⟨⟨_, rfl⟩, witness_completing_store⟩

theorem witness_VariantsAndKeyFixedBetweenInits :
    (∃ t, exec (.md5Calc 0xFFFFFFF0) ready = .next t) ∧ (∀ v, Instr.md5Calc 0xFFFFFFF0 ≠ .sha256Init v) ∧
      (∀ v, Instr.md5Calc 0xFFFFFFF0 ≠ .sha512Init v) ∧
      ∀ n k l, Instr.md5Calc 0xFFFFFFF0 ≠ .chacha20KeyExpand n k l :=
  ⟨witness_completing_store, nofun, nofun, nofun⟩

theorem witness_KeyObservableOnlyThroughEncrypt :
    (∀ o m l, Instr.chacha20PositionSet 0 0 64 ≠ .chacha20Encrypt o m l) ∧
      (v33Context 0 0 0 v33Block0).keyed = ready.cc.keyed := ⟨nofun, rfl⟩

theorem witness_InvariantKeptByEveryStep :
    (ready.withInput [.issue (.mk 0 0 0 0)]).Inv ∧
      ∃ t, step (ready.withInput [.issue (.mk 0 0 0 0)]) = .next t := ⟨ready_inv, ⟨_, rfl⟩⟩

theorem witness_AdmittedRunsKeepInvariant :
    (ready.withInput [.issue (.mk 0 0 0 0)]).Inv ∧ admitted 2 (ready.withInput [.issue (.mk 0 0 0 0)]) :=
  ⟨ready_inv, ⟨_, rfl⟩⟩

theorem witness_StepsWriteOnlyValidMemory :
    ∃ t, step (ready.withInput [.writeByte 0x1000 7]) = .next t ∧ t.mem.read 0x1000 ≠ ready.mem.read 0x1000 :=
  ⟨(ready.withInput []).withMem (Memory.write [] 0x1000 7), rfl, by decide⟩

end Sys2Proof.Tests
end

section
/-! Locality of commands (R8, R92): a command of one engine acts on that engine's context, RESP, buffer memory and the
counter of free values, reads the parameters beside them, and neither reads nor writes anything else. Both scope
statements follow from this one fact. -/

namespace Sys2Proof.Machine

/-! ### A command's outcome with its next state changed -/

@[simp] theorem mapNext_requireAccumulating (f : State → State) (e : HashEngine) (p : Phase) (k : Result) :
    mapNext f (requireAccumulating e p k) = requireAccumulating e p (mapNext f k) := by
  cases p <;> rfl

@[simp] theorem mapNext_requireKeyed (f : State → State) (c : ChachaContext) (k : Result) :
    mapNext f (requireKeyed c k) = requireKeyed c (mapNext f k) := by
  unfold requireKeyed
  split <;> rfl

@[simp] theorem mapNext_requireBuffer (f : State → State) (pl : Platform) (p : Word) (n : Nat) (k : Result) :
    mapNext f (requireBuffer pl p n k) = requireBuffer pl p n (mapNext f k) := by
  unfold requireBuffer
  split <;> rfl

@[simp] theorem mapNext_requireOverlapAllowed (f : State → State) (output message length : Word) (k : Result) :
    mapNext f (requireOverlapAllowed output message length k) =
      requireOverlapAllowed output message length (mapNext f k) := by
  unfold requireOverlapAllowed
  split <;> rfl

theorem mapNext_mapNext (f g : State → State) (r : Result) :
    mapNext f (mapNext g r) = mapNext (fun t => f (g t)) r := by
  cases r <;> rfl

/-! ### What the commands of one engine can reach -/

/-- The state `r` with all that commands of engine `e` can write taken from `s`: the engine's own context, RESP,
buffer memory and the counter of free values. -/
def State.overlay (r : State) (e : Engine) (s : State) : State :=
  let r' := { r with resp := s.resp, mem := s.mem, freeIndex := s.freeIndex }
  match e with
  | .md5 => r'.withMd5 s.md5
  | .sha256 => r'.withS256 s.s256
  | .sha512 => r'.withS512 s.s512
  | .chacha20 => r'.withCc s.cc

@[simp] theorem State.overlay_self (s : State) (e : Engine) : s.overlay e s = s := by
  cases e <;> rfl

/-- Everything outside the reach of engine `e` is that of `r`. -/
theorem State.overlay_frame (r : State) (e : Engine) (s : State) :
    (e ≠ .md5 → (r.overlay e s).md5 = r.md5) ∧ (e ≠ .sha256 → (r.overlay e s).s256 = r.s256) ∧
      (e ≠ .sha512 → (r.overlay e s).s512 = r.s512) ∧ (e ≠ .chacha20 → (r.overlay e s).cc = r.cc) ∧
      (r.overlay e s).w0 = r.w0 ∧ (r.overlay e s).a0 = r.a0 ∧ (r.overlay e s).a1 = r.a1 ∧
      (r.overlay e s).a2 = r.a2 ∧ (r.overlay e s).platform = r.platform ∧ (r.overlay e s).input = r.input := by
  cases e <;> simp [State.overlay]

/-- Locality: around the same parameters, a command does the same to what its engine can reach, whatever the rest of
the state is, and leaves that rest alone. -/
theorem exec_overlay (i : Instr) {r s : State} (h : r.platform = s.platform) :
    exec i (r.overlay (engineOf i) s) = mapNext (r.overlay (engineOf i)) (exec i s) := by
  -- Behind the preconditions, which the overlay passes through, both sides are one update of the engine's context.
  cases i with
  | md5Init => rfl
  | md5DataAdd data length =>
    simp only [exec, execMd5DataAdd, mapNext_requireAccumulating, mapNext_requireBuffer, ← h]
    rfl
  | md5Calc outDigest =>
    simp only [exec, execMd5Calc, mapNext_requireAccumulating, mapNext_requireBuffer, ← h]
    rfl
  | sha256Init variant => rfl
  | sha256DataAdd data length =>
    simp only [exec, execSha256DataAdd, mapNext_requireAccumulating, mapNext_requireBuffer, ← h]
    rfl
  | sha256Calc outDigest =>
    simp only [exec, execSha256Calc, mapNext_requireAccumulating, mapNext_requireBuffer, ← h]
    rfl
  | sha512Init variant => rfl
  | sha512DataAdd data length =>
    simp only [exec, execSha512DataAdd, mapNext_requireAccumulating, mapNext_requireBuffer, ← h]
    rfl
  | sha512Calc outDigest =>
    simp only [exec, execSha512Calc, mapNext_requireAccumulating, mapNext_requireBuffer, ← h]
    rfl
  | chacha20KeyExpand nonce key keyLength =>
    simp only [exec, execChacha20KeyExpand]
    split
    · simp only [mapNext_requireBuffer, ← h]
      rfl
    · rfl
  | chacha20Encrypt output message length =>
    simp only [exec, execChacha20Encrypt, mapNext_requireKeyed, mapNext_requireBuffer,
      mapNext_requireOverlapAllowed, ← h]
    rfl
  | chacha20PositionSet upper6 high32 low32 =>
    simp only [exec, execChacha20PositionSet, mapNext_requireKeyed]
    rfl

/-- Laying the next state over the old one changes nothing: a command writes only within its engine's reach. -/
theorem mapNext_overlay_exec (i : Instr) (s : State) : mapNext (s.overlay (engineOf i)) (exec i s) = exec i s := by
  rw [← exec_overlay i rfl, State.overlay_self]

/-- A change `g` of the state that keeps the parameters and lies outside the reach of the command's engine may as well
be made after the command. -/
theorem exec_change_unreached (i : Instr) (s : State) (g : State → State) (hp : (g s).platform = s.platform)
    (hg : ∀ t, (g s).overlay (engineOf i) t = g (s.overlay (engineOf i) t)) :
    exec i (g s) = mapNext g (exec i s) :=
  calc exec i (g s)
    _ = exec i ((g s).overlay (engineOf i) s) := by rw [hg, State.overlay_self]
    _ = mapNext ((g s).overlay (engineOf i)) (exec i s) := exec_overlay i hp
    _ = mapNext g (mapNext (s.overlay (engineOf i)) (exec i s)) := by rw [mapNext_mapNext, funext hg]
    _ = mapNext g (exec i s) := by rw [mapNext_overlay_exec]

/-! ### Replacing the context of an engine that is not addressed -/

theorem State.overlay_setMd5 (s t : State) (c : Md5Context) {e : Engine} (h : e ≠ .md5) :
    ({ s with md5 := c } : State).overlay e t = { s.overlay e t with md5 := c } := by
  cases e with
  | md5 => exact absurd rfl h
  | sha256 | sha512 | chacha20 => rfl

theorem State.overlay_setS256 (s t : State) (c : Sha256Context) {e : Engine} (h : e ≠ .sha256) :
    ({ s with s256 := c } : State).overlay e t = { s.overlay e t with s256 := c } := by
  cases e with
  | sha256 => exact absurd rfl h
  | md5 | sha512 | chacha20 => rfl

theorem State.overlay_setS512 (s t : State) (c : Sha512Context) {e : Engine} (h : e ≠ .sha512) :
    ({ s with s512 := c } : State).overlay e t = { s.overlay e t with s512 := c } := by
  cases e with
  | sha512 => exact absurd rfl h
  | md5 | sha256 | chacha20 => rfl

theorem State.overlay_setCc (s t : State) (c : ChachaContext) {e : Engine} (h : e ≠ .chacha20) :
    ({ s with cc := c } : State).overlay e t = { s.overlay e t with cc := c } := by
  cases e with
  | chacha20 => exact absurd rfl h
  | md5 | sha256 | sha512 => rfl

/-- Settles O48: the next state is the old one outside the reach of the command's engine. -/
theorem commandsTouchOneEngine : Obligations.CommandsTouchOneEngine := by
  intro i s t ht
  have hlocal : s.overlay (engineOf i) t = t := by
    simpa [ht, mapNext] using mapNext_overlay_exec i s
  rw [← hlocal]
  exact s.overlay_frame (engineOf i) t

/-- Settles O49: a context that the command's engine does not reach may as well be replaced after the command. -/
theorem otherEnginesNeverRead : Obligations.OtherEnginesNeverRead := fun i s =>
  ⟨fun h c => exec_change_unreached i s (fun t => { t with md5 := c }) rfl (s.overlay_setMd5 · c h),
    fun h c => exec_change_unreached i s (fun t => { t with s256 := c }) rfl (s.overlay_setS256 · c h),
    fun h c => exec_change_unreached i s (fun t => { t with s512 := c }) rfl (s.overlay_setS512 · c h),
    fun h c => exec_change_unreached i s (fun t => { t with cc := c }) rfl (s.overlay_setCc · c h)⟩

end Sys2Proof.Machine
end

section
/-! The ChaCha20 context over its commands (R225 to R228): which words of the matrix a command can change, and that a
keyed context keeps the clauses of R31. -/

namespace Sys2Proof.Machine

/-! ### The state matrix but for the counter -/

/-- The two matrices hold the same constants, key words and nonce: all but the counter in words 12 and 13. -/
def sameButCounter (key key' : Vector Word 16) : Prop :=
  ∀ j : Fin 16, j ≠ 12 → j ≠ 13 → key'[j] = key[j]

theorem sameButCounter_refl (key : Vector Word 16) : sameButCounter key key := fun _ _ _ => rfl

theorem sameButCounter.trans {k k' k'' : Vector Word 16} (h : sameButCounter k k') (h' : sameButCounter k' k'') :
    sameButCounter k k'' := fun j h12 h13 => (h' j h12 h13).trans (h j h12 h13)

theorem sameButCounter_set (key : Vector Word 16) (i : Fin 16) (w : Word) (hi : i = 12 ∨ i = 13) :
    sameButCounter key (key.set i w) := by
  intro j h12 h13
  obtain rfl | rfl := hi
  · exact Vector.getElem_set_ne _ _ (Fin.val_ne_of_ne h12.symm)
  · exact Vector.getElem_set_ne _ _ (Fin.val_ne_of_ne h13.symm)

/-- CounterIncrement changes the counter only (R228). -/
theorem chachaCounterIncrement_sameButCounter (key : Vector Word 16) :
    sameButCounter key (chachaCounterIncrement key) := by
  have h12 : ∀ w, sameButCounter key (key.set 12 w) := fun w => sameButCounter_set key 12 w (.inl rfl)
  unfold chachaCounterIncrement
  dsimp only
  split
  · exact (h12 _).trans (sameButCounter_set _ 13 _ (.inr rfl))
  · exact h12 _

/-- Setting the position changes the counter only (R227). -/
theorem chachaSeek_sameButCounter (key : Vector Word 16) (position : BitVec 70) :
    sameButCounter key (chachaSeek key position) :=
  (sameButCounter_set key 12 _ (.inl rfl)).trans (sameButCounter_set _ 13 _ (.inr rfl))

theorem chachaRefill_sameButCounter (c : ChachaContext) : sameButCounter c.key (chachaRefill c).key := by
  unfold chachaRefill
  split
  · exact chachaCounterIncrement_sameButCounter c.key
  · exact sameButCounter_refl c.key

/-- Encrypting changes the counter only (R226). -/
theorem chachaAdvances_sameButCounter (n : Nat) (c : ChachaContext) :
    sameButCounter c.key (chachaAdvances n c).key := by
  induction n generalizing c with
  | zero => exact sameButCounter_refl c.key
  | succ n ih => exact (chachaRefill_sameButCounter c).trans (ih (chachaAdvance c))

/-- The shape of R225 says nothing of the counter. -/
theorem sameButCounter.matrixShape {key key' : Vector Word 16} (h : sameButCounter key key')
    (hs : chachaMatrixShape key) : chachaMatrixShape key' := by
  have word (j : Nat) (hj : j < 12) : key'[j] = key[j] :=
    h ⟨j, by omega⟩ (Fin.ne_of_lt hj) (Fin.ne_of_lt (Nat.lt_succ_of_lt hj))
  simpa [chachaMatrixShape, word] using hs

/-- Key expansion writes a matrix of the shape of R225, whatever the bytes of key and nonce are. -/
theorem chachaMatrix_shape {keyLength : Byte} (h : keyLengthValid keyLength = true) (kb nb : List Byte) :
    chachaMatrixShape (chachaMatrix keyLength kb nb) := by
  obtain rfl | rfl : keyLength = 16 ∨ keyLength = 32 := by simpa [keyLengthValid] using h
  · exact .inr ⟨⟨rfl, rfl, rfl, rfl⟩, rfl, rfl, rfl, rfl⟩
  · exact .inl ⟨rfl, rfl, rfl, rfl⟩

/-! ### The clauses of R31 -/

/-- The clauses of the invariant about the ChaCha20 context (R31). -/
def chachaInv (c : ChachaContext) : Prop := c.off.toNat ≤ 64 ∧ chachaCoherent c

/-- A context with the block of its matrix, the matrix being of the shape of R225 where there is a key. -/
theorem chachaInv_of_block {c : ChachaContext} (hoff : c.off.toNat ≤ 64) (hks : c.ks = chachaBlock c.key)
    (hshape : c.keyed = true → chachaMatrixShape c.key) : chachaInv c := ⟨hoff, fun hk => ⟨hks, hshape hk⟩⟩

theorem chachaFresh_inv {key : Vector Word 16} (h : chachaMatrixShape key) : chachaInv (chachaFresh key) :=
  chachaInv_of_block (Nat.zero_le 64) rfl fun _ => h

/-- The offset of a position is below 64 (R227). -/
theorem positionOffset_lt (position : BitVec 70) : (positionOffset position).toNat < 64 := by
  unfold positionOffset
  rw [BitVec.toNat_setWidth]
  omega

theorem chachaRefill_inv {c : ChachaContext} (h : chachaInv c) :
    (chachaRefill c).off.toNat < 64 ∧ chachaCoherent (chachaRefill c) := by
  obtain ⟨hoff, hco⟩ := h
  unfold chachaRefill
  split
  · exact ⟨by simp, fun hk => ⟨rfl, (chachaCounterIncrement_sameButCounter c.key).matrixShape (hco hk).2⟩⟩
  · next hne => exact ⟨by bv_omega, hco⟩

theorem chachaAdvance_inv {c : ChachaContext} (h : chachaInv c) : chachaInv (chachaAdvance c) := by
  obtain ⟨hoff, hco⟩ := chachaRefill_inv h
  refine ⟨?_, hco⟩
  show ((chachaRefill c).off + 1).toNat ≤ 64
  bv_omega

/-- Encrypting keeps the clauses of R31. -/
theorem chachaAdvances_inv (n : Nat) {c : ChachaContext} (h : chachaInv c) : chachaInv (chachaAdvances n c) := by
  induction n generalizing c with
  | zero => exact h
  | succ n ih => exact ih (chachaAdvance_inv h)

end Sys2Proof.Machine
end

section
/-! The invariant of the machine over every step (R22, R27, R31, R60): one rule per update of the state, then every
command, every action of the host and every step by those rules. -/

namespace Sys2Proof.Machine

/-! ### Memory inside the 32-bit space -/

/-- The clauses of the invariant about buffer memory: the canonical form, inside the 32-bit space (R60). -/
def Memory.inv (m : Memory) : Prop := m.wf ∧ ∀ c ∈ m, c.1 < 2 ^ 32

theorem Memory.inv_write {m : Memory} (h : m.inv) (a : Word) (b : Byte) : (m.write a.toNat b).inv := by
  refine ⟨Memory.wf_write h.1 _ _, fun c hc => ?_⟩
  rcases Memory.mem_write hc with e | hm
  · exact e ▸ a.isLt
  · exact h.2 c hm

theorem Memory.inv_writeBytes {m : Memory} (h : m.inv) {a : Nat} {bs : List Byte} (ha : a + bs.length ≤ 2 ^ 32) :
    (m.writeBytes a bs).inv := by
  refine ⟨Memory.wf_writeBytes h.1 _ _, fun c hc => ?_⟩
  rcases Memory.mem_writeBytes hc with hr | hm
  · exact hr.2.trans_le ha
  · exact h.2 c hm

theorem chachaCrypt_inv {m : Memory} (h : m.inv) {output n : Nat} (ho : output + n ≤ 2 ^ 32) (message : Nat)
    (c : ChachaContext) : (chachaCrypt output message n c m).inv := by
  refine ⟨chachaCrypt_wf _ _ _ _ h.1, fun x hx => ?_⟩
  rcases chachaCrypt_mem hx with hr | hm
  · exact hr.2.trans_le ho
  · exact h.2 x hm

/-! ### The counter of the SHA-512 engine inside its width -/

/-- SHA512_DATAADD keeps the counter inside its width (R197). -/
theorem sha512Absorb_total_lt {bits : Nat} {c : Sha512Context} (h : c.total.toNat < 2 ^ bits) (bytes : List Byte) :
    (sha512Absorb bits c bytes).total.toNat < 2 ^ bits := by
  induction bytes generalizing c with
  | nil => exact h
  | cons b bytes ih => exact ih (c := sha512AbsorbByte bits c b) (truncCounter_lt bits _)

/-! ### One rule per update of the state -/

theorem State.inv_iff (s : State) :
    s.Inv ↔ s.mem.inv ∧ (s.resp = 0 ∨ s.resp = 1 ∨ s.resp = 2) ∧ chachaInv s.cc ∧
      s.s512.total.toNat < 2 ^ s.platform.sha512CounterBits := by
  simp only [State.Inv, Memory.inv, chachaInv, and_assoc]

section
variable {s : State} (h : s.Inv)
include h

/-! Updates of fields the invariant does not speak of. -/

theorem State.Inv.withFrame (f : Frame) : (s.withFrame f).Inv := h

theorem State.Inv.withInput (l : List HostAction) : (s.withInput l).Inv := h

theorem State.Inv.withMd5 (c : Md5Context) : (s.withMd5 c).Inv := h

theorem State.Inv.withS256 (c : Sha256Context) : (s.withS256 c).Inv := h

theorem State.Inv.nextFree : s.nextFree.Inv := h

/-! Its clauses about memory, the ChaCha20 context and the SHA-512 counter. -/

theorem State.Inv.memory : s.mem.inv := (s.inv_iff.mp h).1

theorem State.Inv.chacha : chachaInv s.cc := (s.inv_iff.mp h).2.2.1

theorem State.Inv.counter : s.s512.total.toNat < 2 ^ s.platform.sha512CounterBits := (s.inv_iff.mp h).2.2.2

/-! Updates of fields it speaks of, each with its clause to show. -/

theorem State.Inv.withMem {m : Memory} (hm : m.inv) : (s.withMem m).Inv := by
  rw [State.inv_iff] at h ⊢
  exact ⟨hm, h.2⟩

theorem State.Inv.withResp {r : Word} (hr : r = 0 ∨ r = 1 ∨ r = 2) : (s.withResp r).Inv := by
  rw [State.inv_iff] at h ⊢
  exact ⟨h.1, hr, h.2.2⟩

theorem State.Inv.withCc {c : ChachaContext} (hc : chachaInv c) : (s.withCc c).Inv := by
  rw [State.inv_iff] at h ⊢
  exact ⟨h.1, h.2.1, hc, h.2.2.2⟩

theorem State.Inv.withS512 {c : Sha512Context} (hc : c.total.toNat < 2 ^ s.platform.sha512CounterBits) :
    (s.withS512 c).Inv := by
  rw [State.inv_iff] at h ⊢
  exact ⟨h.1, h.2.1, h.2.2.1, hc⟩

/-- What a command that completes with OK leaves. -/
theorem State.Inv.withRespOk : (s.withResp 0).Inv := h.withResp (.inl rfl)

end

/-! ### Commands, actions of the host, steps -/

/-- Every command keeps the invariant. -/
theorem exec_keeps_inv (i : Instr) {s t : State} (h : s.Inv) (ht : exec i s = .next t) : t.Inv := by
  cases i with
  | md5Init =>
    obtain rfl := (execMd5Init_next s t).mp ht
    exact (h.withMd5 _).withRespOk
  | md5DataAdd data length =>
    obtain ⟨-, -, rfl⟩ := (execMd5DataAdd_next data length s t).mp ht
    exact (h.withMd5 _).withRespOk
  | md5Calc outDigest =>
    obtain ⟨-, ⟨-, htop, -⟩, rfl⟩ := (execMd5Calc_next outDigest s t).mp ht
    have hm := Memory.inv_writeBytes h.memory (bs := md5DigestOf (md5Finish s.md5)) (by simpa using htop)
    exact ((h.withMem hm).withMd5 _).nextFree.withRespOk
  | sha256Init variant =>
    obtain rfl := (execSha256Init_next variant s t).mp ht
    exact (h.withS256 _).withRespOk
  | sha256DataAdd data length =>
    obtain ⟨-, -, rfl⟩ := (execSha256DataAdd_next data length s t).mp ht
    exact (h.withS256 _).withRespOk
  | sha256Calc outDigest =>
    obtain ⟨-, ⟨-, htop, -⟩, rfl⟩ := (execSha256Calc_next outDigest s t).mp ht
    have hm := Memory.inv_writeBytes h.memory (bs := sha256DigestOf s.s256.variant (sha256Finish s.s256))
      (by simpa using htop)
    exact ((h.withMem hm).withS256 _).nextFree.withRespOk
  | sha512Init variant =>
    obtain rfl := (execSha512Init_next variant s t).mp ht
    exact (h.withS512 (Nat.two_pow_pos _)).withRespOk
  | sha512DataAdd data length =>
    obtain ⟨-, -, rfl⟩ := (execSha512DataAdd_next data length s t).mp ht
    exact (h.withS512 (sha512Absorb_total_lt h.counter _)).withRespOk
  | sha512Calc outDigest =>
    obtain ⟨-, ⟨-, htop, -⟩, rfl⟩ := (execSha512Calc_next outDigest s t).mp ht
    have hm := Memory.inv_writeBytes h.memory (bs := sha512DigestOf s.s512.variant (sha512Finish s.s512))
      (by simpa using htop)
    exact ((h.withMem hm).withS512 (truncCounter_lt _ _)).nextFree.withRespOk
  | chacha20KeyExpand nonce key keyLength =>
    obtain ⟨hlen, -, -, rfl⟩ | ⟨-, rfl⟩ := (execChacha20KeyExpand_next nonce key keyLength s t).mp ht
    · exact (h.withCc (chachaFresh_inv (chachaMatrix_shape hlen _ _))).withRespOk
    · exact h.withResp (.inr (.inl rfl))
  | chacha20Encrypt output message length =>
    obtain ⟨-, ⟨-, htop, -⟩, -, -, rfl⟩ := (execChacha20Encrypt_next output message length s t).mp ht
    exact ((h.withMem (chachaCrypt_inv h.memory htop _ _)).withCc (chachaAdvances_inv _ h.chacha)).withRespOk
  | chacha20PositionSet upper6 high32 low32 =>
    obtain ⟨hkeyed, rfl⟩ := (execChacha20PositionSet_next upper6 high32 low32 s t).mp ht
    have hshape := (chachaSeek_sameButCounter s.cc.key (streamPosition upper6 high32 low32)).matrixShape
      (h.chacha.2 hkeyed).2
    exact (h.withCc (chachaInv_of_block (positionOffset_lt _).le rfl fun _ => hshape)).withRespOk

/-- A frame keeps the invariant, whether it encodes a command or not. -/
theorem runFrame_keeps_inv {f : Frame} {s t : State} (h : s.Inv) (ht : runFrame f s = .next t) : t.Inv := by
  cases hd : decode f with
  | ok i => exact exec_keeps_inv i (h.withFrame f) (runFrame_of_decoded hd s ▸ ht)
  | error e =>
    rw [runFrame_of_illegal hd] at ht
    cases ht
    exact (h.withFrame f).withResp (.inr (.inr rfl))

/-- After a reset the invariant asks for nothing but memory, which a reset keeps (R36, R291). -/
theorem resetBlock_inv {s : State} (h : s.mem.inv) : (resetBlock s).Inv :=
  (State.inv_iff _).mpr ⟨h, .inl rfl, ⟨Nat.zero_le 64, nofun⟩, Nat.two_pow_pos _⟩

theorem runAction_keeps_inv {a : HostAction} {s t : State} (h : s.Inv) (ht : runAction a s = .next t) : t.Inv := by
  cases a with
  | issue f => exact runFrame_keeps_inv h ht
  | writeByte a b =>
    obtain ⟨-, rfl⟩ := (hostWriteByte_next a b s t).mp ht
    exact h.withMem (Memory.inv_write h.memory a b)
  | reset =>
    cases ht
    exact resetBlock_inv h.memory

/-- With no action left the block holds its state (R271). -/
theorem step_of_input_nil {s : State} (h : s.input = []) : step s = .next s := by
  simp [step, h]

/-- The host's next action runs with the rest of the list left (R300). -/
theorem step_of_input_cons {s : State} {a : HostAction} {rest : List HostAction} (h : s.input = a :: rest) :
    step s = runAction a (s.withInput rest) := by
  simp [step, h]

/-- Settles O56: the host's next action, run whole, keeps the invariant. -/
theorem invariantKeptByEveryStep : Obligations.InvariantKeptByEveryStep := by
  intro s t h ht
  cases hin : s.input with
  | nil =>
    rw [step_of_input_nil hin] at ht
    cases ht
    exact h
  | cons a rest => exact runAction_keeps_inv (h.withInput rest) (step_of_input_cons hin ▸ ht)

/-- Settles O57: a reset of the machine right after reset gives that state back. -/
theorem resetMeetsInvariant : Obligations.ResetMeetsInvariant :=
  resetBlock_inv (s := State.reset) ⟨Memory.wf_nil, nofun⟩

end Sys2Proof.Machine
end

section
/-! What each command leaves of the phases, the variants and the key (R26, R27, R29, R32), what it refuses (93 U1 to
U3), and what of the state its outcome does not depend on (R24, R33). -/

namespace Sys2Proof.Machine

/-! ### Phases, variants and the key after a command -/

/-- Settles O53: the phase of the addressed engine is what its command's next state holds. -/
theorem phaseMachine : Obligations.PhaseMachine := by
  intro i s t ht
  cases i with
  | md5Init =>
    obtain rfl := (execMd5Init_next s t).mp ht
    rfl
  | md5DataAdd data length =>
    obtain ⟨hphase, -, rfl⟩ := (execMd5DataAdd_next data length s t).mp ht
    simp [refPhases, hphase]
  | md5Calc outDigest =>
    obtain ⟨-, -, rfl⟩ := (execMd5Calc_next outDigest s t).mp ht
    rfl
  | sha256Init variant =>
    obtain rfl := (execSha256Init_next variant s t).mp ht
    rfl
  | sha256DataAdd data length =>
    obtain ⟨hphase, -, rfl⟩ := (execSha256DataAdd_next data length s t).mp ht
    simp [refPhases, hphase]
  | sha256Calc outDigest =>
    obtain ⟨-, -, rfl⟩ := (execSha256Calc_next outDigest s t).mp ht
    rfl
  | sha512Init variant =>
    obtain rfl := (execSha512Init_next variant s t).mp ht
    rfl
  | sha512DataAdd data length =>
    obtain ⟨hphase, -, rfl⟩ := (execSha512DataAdd_next data length s t).mp ht
    simp [refPhases, hphase]
  | sha512Calc outDigest =>
    obtain ⟨-, -, rfl⟩ := (execSha512Calc_next outDigest s t).mp ht
    rfl
  | chacha20KeyExpand | chacha20Encrypt | chacha20PositionSet =>
    obtain ⟨hmd5, h256, h512, -⟩ := commandsTouchOneEngine _ s t ht
    rw [hmd5 nofun, h256 nofun, h512 nofun]
    rfl

theorem exec_sha256_variant {i : Instr} {s t : State} (ht : exec i s = .next t) (hi : ∀ v, i ≠ .sha256Init v) :
    t.s256.variant = s.s256.variant := by
  cases i with
  | sha256Init variant => exact absurd rfl (hi variant)
  | sha256DataAdd data length =>
    obtain ⟨-, -, rfl⟩ := (execSha256DataAdd_next data length s t).mp ht
    exact sha256Absorb_variant _ _
  | sha256Calc outDigest =>
    obtain ⟨-, -, rfl⟩ := (execSha256Calc_next outDigest s t).mp ht
    rfl
  | _ =>
    obtain ⟨-, h256, -⟩ := commandsTouchOneEngine _ s t ht
    rw [h256 nofun]

theorem exec_sha512_variant {i : Instr} {s t : State} (ht : exec i s = .next t) (hi : ∀ v, i ≠ .sha512Init v) :
    t.s512.variant = s.s512.variant := by
  cases i with
  | sha512Init variant => exact absurd rfl (hi variant)
  | sha512DataAdd data length =>
    obtain ⟨-, -, rfl⟩ := (execSha512DataAdd_next data length s t).mp ht
    exact sha512Absorb_variant _ _ _
  | sha512Calc outDigest =>
    obtain ⟨-, -, rfl⟩ := (execSha512Calc_next outDigest s t).mp ht
    rfl
  | _ =>
    obtain ⟨-, -, h512, -⟩ := commandsTouchOneEngine _ s t ht
    rw [h512 nofun]

theorem exec_chacha_key {i : Instr} {s t : State} (ht : exec i s = .next t)
    (hi : ∀ n k l, i ≠ .chacha20KeyExpand n k l) :
    t.cc.keyed = s.cc.keyed ∧ sameButCounter s.cc.key t.cc.key := by
  cases i with
  | chacha20KeyExpand nonce key keyLength => exact absurd rfl (hi nonce key keyLength)
  | chacha20Encrypt output message length =>
    obtain ⟨-, -, -, -, rfl⟩ := (execChacha20Encrypt_next output message length s t).mp ht
    exact ⟨chachaAdvances_keyed _ _, chachaAdvances_sameButCounter _ _⟩
  | chacha20PositionSet upper6 high32 low32 =>
    obtain ⟨-, rfl⟩ := (execChacha20PositionSet_next upper6 high32 low32 s t).mp ht
    exact ⟨rfl, chachaSeek_sameButCounter _ _⟩
  | _ =>
    obtain ⟨-, -, -, hcc, -⟩ := commandsTouchOneEngine _ s t ht
    rw [hcc nofun]
    exact ⟨rfl, sameButCounter_refl _⟩

/-- Settles O54, one engine at a time. -/
theorem variantsAndKeyFixedBetweenInits : Obligations.VariantsAndKeyFixedBetweenInits := fun _ _ _ ht =>
  ⟨exec_sha256_variant ht, exec_sha512_variant ht, exec_chacha_key ht⟩

/-! ### What the outcome of a command does not depend on -/

/-- A change of the next state that the host cannot observe. -/
theorem hostViewOf_mapNext {f : State → State} (hf : ∀ t, hostView (f t) = hostView t) (r : Result) :
    hostViewOf (mapNext f r) = hostViewOf r := by
  cases r with
  | next t => exact congrArg some (hf t)
  | fault _ | refused _ => rfl

/-- Settles O55: key expansion does not read the old context, setting a position reads only whether there is a key, and
the other engines do not read it at all. -/
theorem keyObservableOnlyThroughEncrypt : Obligations.KeyObservableOnlyThroughEncrypt := by
  intro i s c hi hkeyed
  have unaddressed (h : engineOf i ≠ .chacha20) :
      hostViewOf (exec i { s with cc := c }) = hostViewOf (exec i s) := by
    obtain ⟨-, -, -, hcc⟩ := otherEnginesNeverRead i s
    rw [hcc h c]
    exact hostViewOf_mapNext (f := (·.withCc c)) (fun _ => rfl) _
  cases i with
  | chacha20KeyExpand nonce key keyLength =>
    simp only [exec, execChacha20KeyExpand]
    split <;> rfl
  | chacha20Encrypt output message length => exact absurd rfl (hi output message length)
  | chacha20PositionSet upper6 high32 low32 =>
    simp only [exec, execChacha20PositionSet, requireKeyed, hkeyed]
    split <;> rfl
  | _ => exact unaddressed nofun

/-- Settles O50: every command ends by overwriting RESP, and no precondition reads it. -/
theorem respNeverRead : Obligations.RespNeverRead := by
  intro i s r
  cases i <;> rfl

/-! ### Refusals out of phase or without a key -/

theorem requireAccumulating_of_finalized {p : Phase} (h : p = .finalized) (e : HashEngine) (k : Result) :
    requireAccumulating e p k = .refused (.contextFinalized e) := by
  rw [h]
  rfl

theorem requireAccumulating_of_uninitialized {p : Phase} (h : p = .uninitialized) (e : HashEngine) (k : Result) :
    requireAccumulating e p k = .refused (.contextUninitialized e) := by
  rw [h]
  rfl

theorem requireKeyed_of_unkeyed {c : ChachaContext} (h : c.keyed = false) (k : Result) :
    requireKeyed c k = .refused .chachaNotKeyed := by
  simp [requireKeyed, h]

/-- Settles O44: the phase is the first precondition of the six commands. -/
theorem hashCommandsRefusedOutOfPhase : Obligations.HashCommandsRefusedOutOfPhase := by
  intro s p n
  have fin {q : Phase} {e : HashEngine} (k k' : Result) (h : q = .finalized) :=
    And.intro (requireAccumulating_of_finalized h e k) (requireAccumulating_of_finalized h e k')
  have uninit {q : Phase} {e : HashEngine} (k k' : Result) (h : q = .uninitialized) :=
    And.intro (requireAccumulating_of_uninitialized h e k) (requireAccumulating_of_uninitialized h e k')
  exact ⟨fin _ _, uninit _ _, fin _ _, uninit _ _, fin _ _, uninit _ _⟩

/-- Settles O45: the key is the first precondition of the two commands. -/
theorem unkeyedChachaRefused : Obligations.UnkeyedChachaRefused := fun _ _ _ _ _ h =>
  ⟨requireKeyed_of_unkeyed h _, requireKeyed_of_unkeyed h _⟩

/-! ### Frames and reset -/

/-- Settles O6: the action comes off the list, then the decoded command runs with the frame in its registers. -/
theorem stepRunsDecodedFrame : Obligations.StepRunsDecodedFrame := by
  intro s f rest i hin hdecode
  calc step s
    _ = runFrame f (s.withInput rest) := step_of_input_cons hin
    _ = exec i ((s.withInput rest).withFrame f) := runFrame_of_decoded hdecode _

/-- Settles O10: the values are those of the definition. -/
theorem resetStateValues : Obligations.ResetStateValues := ⟨rfl, rfl, rfl, rfl, rfl, rfl⟩

end Sys2Proof.Machine
end

section
/-! Buffer memory under commands and steps (R62, R74, R75): what a command refuses of its buffers (93 U4, U5), and
where a command or the host writes. -/

namespace Sys2Proof.Machine

/-! ### Operand counts as the rules give them -/

theorem sha256DigestBytes_eq (v : Sha256Variant) : sha256DigestBytes v = if v = .sha224 then 28 else 32 := by
  cases v <;> rfl

theorem sha512DigestBytes_eq (v : Sha512Variant) : sha512DigestBytes v = if v = .sha384 then 48 else 64 := by
  cases v <;> rfl

theorem overlapAllowed_iff_ref (output message : Word) (n : Nat) :
    overlapAllowed output message n = true ↔ refOverlapAllowed output message n :=
  overlapAllowed_eq_true output message n

/-! ### Refusals of invalid or partially overlapping buffers -/

/-- A hash command in phase ACCUMULATING is refused where its one buffer is not valid. -/
theorem requireAccumulating_requireBuffer_of_invalid {phase : Phase} {pl : Platform} {p : Word} {n : Nat}
    (hphase : phase = .accumulating) (h : ¬BufferValid pl p n) (e : HashEngine) (k : Result) :
    ∃ why, requireAccumulating e phase (requireBuffer pl p n k) = .refused (.invalidBuffer p n why) := by
  rw [hphase]
  exact requireBuffer_of_invalid h k

/-- Of two required buffers, the first one that is not valid is the one refused. -/
theorem requireBuffer_requireBuffer_of_invalid {pl : Platform} {p q : Word} {n m : Nat}
    (h : ¬BufferValid pl p n ∨ ¬BufferValid pl q m) (k : Result) :
    ∃ b j why, (b = p ∧ j = n ∨ BufferValid pl p n ∧ b = q ∧ j = m) ∧
      requireBuffer pl p n (requireBuffer pl q m k) = .refused (.invalidBuffer b j why) := by
  by_cases hp : BufferValid pl p n
  · obtain ⟨why, hwhy⟩ := requireBuffer_of_invalid (h.resolve_left (not_not_intro hp)) k
    exact ⟨q, m, why, .inr ⟨hp, rfl, rfl⟩, (requireBuffer_of_valid hp _).trans hwhy⟩
  · obtain ⟨why, hwhy⟩ := requireBuffer_of_invalid hp (requireBuffer pl q m k)
    exact ⟨p, n, why, .inl ⟨rfl, rfl⟩, hwhy⟩

theorem requireOverlapAllowed_of_not_allowed {output message length : Word}
    (h : ¬refOverlapAllowed output message length.toNat) (k : Result) :
    requireOverlapAllowed output message length k = .refused (.partialOverlap output message length) :=
  if_neg fun hallowed => h ((overlapAllowed_iff_ref _ _ _).mp hallowed)

theorem execChacha20KeyExpand_of_invalid {s : State} {nonce key : Word} {keyLength : Byte}
    (hlen : keyLength = 16 ∨ keyLength = 32)
    (h : ¬BufferValid s.platform nonce 8 ∨ ¬BufferValid s.platform key keyLength.toNat) :
    ∃ b k why, execChacha20KeyExpand nonce key keyLength s = .refused (.invalidBuffer b k why) := by
  have hlen' : keyLengthValid keyLength = true := by simpa [keyLengthValid] using hlen
  obtain ⟨b, k, why, -, hrefused⟩ := requireBuffer_requireBuffer_of_invalid h _
  exact ⟨b, k, why, (if_pos hlen').trans hrefused⟩

theorem execChacha20Encrypt_of_invalid {s : State} {output message length : Word} (hkeyed : s.cc.keyed = true)
    (h : ¬BufferValid s.platform output length.toNat ∨ ¬BufferValid s.platform message length.toNat) :
    ∃ b why, execChacha20Encrypt output message length s = .refused (.invalidBuffer b length.toNat why) := by
  obtain ⟨b, k, why, hb, hrefused⟩ := requireBuffer_requireBuffer_of_invalid h _
  have hk : k = length.toNat := hb.elim And.right fun hq => hq.2.2
  exact ⟨b, why, (requireKeyed_of_keyed hkeyed _).trans (hk ▸ hrefused)⟩

/-- Settles O46: the buffers are the preconditions right after phase, key or key length. -/
theorem invalidBufferRefused : Obligations.InvalidBufferRefused := by
  intro s p q n
  refine ⟨fun hphase h => ?md5DataAdd, fun hphase h => requireAccumulating_requireBuffer_of_invalid hphase h _ _,
    fun hphase h => requireAccumulating_requireBuffer_of_invalid hphase h _ _, fun hphase k hk h => ?sha256Calc,
    fun hphase h => requireAccumulating_requireBuffer_of_invalid hphase h _ _, fun hphase k hk h => ?sha512Calc,
    fun _ hlen h => execChacha20KeyExpand_of_invalid hlen h, fun hkeyed h => execChacha20Encrypt_of_invalid hkeyed h⟩
  case md5DataAdd =>
    rw [← md5Length_eq] at h ⊢
    exact requireAccumulating_requireBuffer_of_invalid hphase h _ _
  case sha256Calc =>
    obtain rfl := hk.trans (sha256DigestBytes_eq _).symm
    exact requireAccumulating_requireBuffer_of_invalid hphase h _ _
  case sha512Calc =>
    obtain rfl := hk.trans (sha512DigestBytes_eq _).symm
    exact requireAccumulating_requireBuffer_of_invalid hphase h _ _

/-- Settles O47: with a key and valid buffers, the overlap is the precondition left. -/
theorem partialOverlapRefused : Obligations.PartialOverlapRefused := by
  intro s output message length hkeyed hout hmsg hoverlap
  exact (requireKeyed_of_keyed hkeyed _).trans <| (requireBuffer_of_valid hout _).trans <|
    (requireBuffer_of_valid hmsg _).trans <| requireOverlapAllowed_of_not_allowed hoverlap _

/-! ### Where a command writes -/

/-- Settles O51: four commands write the bytes of one buffer, the others keep memory. -/
theorem onlyWrittenBufferChanges : Obligations.OnlyWrittenBufferChanges := by
  intro i s t ht a ha
  cases i with
  | md5Init =>
    obtain rfl := (execMd5Init_next s t).mp ht
    rfl
  | md5DataAdd data length =>
    obtain ⟨-, -, rfl⟩ := (execMd5DataAdd_next data length s t).mp ht
    rfl
  | md5Calc outDigest =>
    obtain ⟨-, -, rfl⟩ := (execMd5Calc_next outDigest s t).mp ht
    exact Memory.read_writeBytes_other _ _ _ (by rwa [md5DigestOf_length])
  | sha256Init variant =>
    obtain rfl := (execSha256Init_next variant s t).mp ht
    rfl
  | sha256DataAdd data length =>
    obtain ⟨-, -, rfl⟩ := (execSha256DataAdd_next data length s t).mp ht
    rfl
  | sha256Calc outDigest =>
    obtain ⟨-, -, rfl⟩ := (execSha256Calc_next outDigest s t).mp ht
    exact Memory.read_writeBytes_other _ _ _ (by rwa [sha256DigestOf_length])
  | sha512Init variant =>
    obtain rfl := (execSha512Init_next variant s t).mp ht
    rfl
  | sha512DataAdd data length =>
    obtain ⟨-, -, rfl⟩ := (execSha512DataAdd_next data length s t).mp ht
    rfl
  | sha512Calc outDigest =>
    obtain ⟨-, -, rfl⟩ := (execSha512Calc_next outDigest s t).mp ht
    exact Memory.read_writeBytes_other _ _ _ (by rwa [sha512DigestOf_length])
  | chacha20KeyExpand nonce key keyLength =>
    obtain ⟨-, -, -, rfl⟩ | ⟨-, rfl⟩ := (execChacha20KeyExpand_next nonce key keyLength s t).mp ht <;> rfl
  | chacha20Encrypt output message length =>
    obtain ⟨-, -, -, -, rfl⟩ := (execChacha20Encrypt_next output message length s t).mp ht
    exact chachaCrypt_read_other _ _ _ _ _ ha
  | chacha20PositionSet upper6 high32 low32 =>
    obtain ⟨-, rfl⟩ := (execChacha20PositionSet_next upper6 high32 low32 s t).mp ht
    rfl

/-- The buffer that a completing command writes lies in `ValidAddr`: its validity was a precondition (R62). -/
theorem exec_writtenBuffer_valid {i : Instr} {s t : State} (ht : exec i s = .next t) :
    ∀ k < (writtenBuffer s i).2, validAddr s.platform ((writtenBuffer s i).1 + k) = true := by
  cases i with
  | md5Calc outDigest =>
    obtain ⟨-, ⟨-, -, hvalid⟩, -⟩ := (execMd5Calc_next outDigest s t).mp ht
    exact hvalid
  | sha256Calc outDigest =>
    obtain ⟨-, ⟨-, -, hvalid⟩, -⟩ := (execSha256Calc_next outDigest s t).mp ht
    exact hvalid
  | sha512Calc outDigest =>
    obtain ⟨-, ⟨-, -, hvalid⟩, -⟩ := (execSha512Calc_next outDigest s t).mp ht
    exact hvalid
  | chacha20Encrypt output message length =>
    obtain ⟨-, ⟨-, -, hvalid⟩, -⟩ := (execChacha20Encrypt_next output message length s t).mp ht
    exact hvalid
  | _ => exact fun k hk => absurd hk (Nat.not_lt_zero k)

/-! ### Where a step writes -/

/-- A byte that a command changes lies in the buffer it writes, hence in `ValidAddr`. -/
theorem exec_changes_only_valid {i : Instr} {s t : State} (ht : exec i s = .next t) {a : Nat}
    (ha : t.mem.read a ≠ s.mem.read a) : validAddr s.platform a = true := by
  by_contra hinvalid
  refine ha (onlyWrittenBufferChanges i s t ht a ?_)
  by_contra hin
  obtain ⟨k, rfl⟩ : ∃ k, a = (writtenBuffer s i).1 + k := Nat.exists_eq_add_of_le (by omega)
  exact hinvalid (exec_writtenBuffer_valid ht k (by omega))

/-- A frame that encodes no command changes no byte (R262); any other changes what its command changes. -/
theorem runFrame_changes_only_valid {f : Frame} {s t : State} (ht : runFrame f s = .next t) {a : Nat}
    (ha : t.mem.read a ≠ s.mem.read a) : validAddr s.platform a = true := by
  cases hd : decode f with
  | ok i =>
    rw [runFrame_of_decoded hd] at ht
    exact exec_changes_only_valid ht ha
  | error e =>
    rw [runFrame_of_illegal hd] at ht
    cases ht
    exact absurd rfl ha

theorem runAction_changes_only_valid {x : HostAction} {s t : State} (ht : runAction x s = .next t) {a : Nat}
    (ha : t.mem.read a ≠ s.mem.read a) : validAddr s.platform a = true := by
  cases x with
  | issue f => exact runFrame_changes_only_valid ht ha
  | writeByte p b =>
    obtain ⟨hp, rfl⟩ := (hostWriteByte_next p b s t).mp ht
    obtain rfl : a = p.toNat := by
      by_contra hne
      exact ha (Memory.read_write_other _ b hne)
    exact hp
  | reset =>
    cases ht
    exact absurd rfl ha

/-- Settles O59: an idle step changes no byte, any other only what the host's next action changes. -/
theorem stepsWriteOnlyValidMemory : Obligations.StepsWriteOnlyValidMemory := by
  intro s t ht a ha
  cases hin : s.input with
  | nil =>
    rw [step_of_input_nil hin] at ht
    cases ht
    exact absurd rfl ha
  | cons x rest =>
    rw [step_of_input_cons hin] at ht
    exact runAction_changes_only_valid ht ha

end Sys2Proof.Machine
end

section
/-! The encoding (R90 to R97, R108): the decoder reads a command from a frame exactly where the command is well formed
and encodes to the words of the frame that it uses (`decode_eq_ok_iff_encode`). Both round trips follow, and that the
other words are ignored. -/

namespace Sys2Proof.Machine

/-! ### The fields of the command word -/

theorem extractLsb'_high_eq_zero_iff (w : Word) : w.extractLsb' 16 16 = 0 ↔ w.toNat / 2 ^ 16 = 0 := by
  have h0 : (0 : BitVec 16).toNat = 0 := rfl
  rw [← BitVec.toNat_inj, BitVec.extractLsb'_toNat, Nat.shiftRight_eq_div_pow, h0]
  omega

theorem fieldOpcode_toNat (w : Word) : (fieldOpcode w).toNat = w.toNat % 256 := by
  simp [fieldOpcode, BitVec.extractLsb'_toNat]

theorem fieldMod_toNat (w : Word) : (fieldMod w).toNat = w.toNat / 256 % 256 := by
  simp [fieldMod, BitVec.extractLsb'_toNat, Nat.shiftRight_eq_div_pow]

theorem commandWord_toNat (opcode mod : Byte) : (commandWord opcode mod).toNat = mod.toNat * 256 + opcode.toNat := by
  have hmod := mod.isLt
  have hopcode := opcode.isLt
  have hor : mod.toNat <<< 8 ||| opcode.toNat = mod.toNat <<< 8 + opcode.toNat :=
    (Nat.shiftLeft_add_eq_or_of_lt hopcode _).symm
  rw [commandWord, BitVec.toNat_or, BitVec.toNat_shiftLeft, BitVec.toNat_setWidth, BitVec.toNat_setWidth,
    Nat.mod_eq_of_lt (by omega : mod.toNat < 2 ^ 32), Nat.mod_eq_of_lt (by omega : opcode.toNat < 2 ^ 32),
    Nat.mod_eq_of_lt (by omega : mod.toNat <<< 8 < 2 ^ 32), hor, Nat.shiftLeft_eq]

theorem fieldMod_commandWord (opcode mod : Byte) : fieldMod (commandWord opcode mod) = mod := by
  apply BitVec.eq_of_toNat_eq
  rw [fieldMod_toNat, commandWord_toNat]
  omega

/-- A command word with RSV zero is made of its opcode and its modifier (R91). -/
theorem commandWord_of_fields {w : Word} (h : fieldRsv w = 0) : commandWord (fieldOpcode w) (fieldMod w) = w := by
  have hrsv : w.toNat / 2 ^ 16 = 0 := (extractLsb'_high_eq_zero_iff w).mp h
  apply BitVec.eq_of_toNat_eq
  rw [commandWord_toNat, fieldMod_toNat, fieldOpcode_toNat]
  omega

/-! ### When a check of the decoder lets a command through (R94, R97) -/

theorem check_eq_ok (p : Prop) [Decidable p] (r : Except DecodeError Instr) (e : DecodeError) (i : Instr) :
    (if p then r else .error e) = .ok i ↔ p ∧ r = .ok i := by
  split_ifs with h <;> simp [h]

/-- MOD of an INIT command chooses one of two commands. -/
theorem variantCheck_eq_ok (mod : Byte) (i i' : Instr) (e : DecodeError) (j : Instr) :
    (if mod = 0 then .ok i else if mod = 1 then .ok i' else .error e) = Except.ok j ↔
      (mod = 0 ∧ i = j) ∨ (mod = 1 ∧ i' = j) := by
  by_cases h : mod = 0
  · simp [h]
  · rw [if_neg h, check_eq_ok, Except.ok.injEq, or_iff_right fun h' => h h'.1]

theorem decodePlain_eq_ok (opcode mod : Byte) (i j : Instr) :
    decodePlain opcode mod i = .ok j ↔ mod = 0 ∧ i = j := by
  rw [decodePlain, check_eq_ok, Except.ok.injEq]

theorem decodeMd5DataAdd_eq_ok (mod : Byte) (data length : Word) (j : Instr) :
    decodeMd5DataAdd mod data length = .ok j ↔
      mod = 0 ∧ length.toNat / 2 ^ 16 = 0 ∧ .md5DataAdd data length = j := by
  rw [decodeMd5DataAdd, check_eq_ok, check_eq_ok, extractLsb'_high_eq_zero_iff, Except.ok.injEq]

theorem decodeSha256Init_eq_ok (mod : Byte) (j : Instr) :
    decodeSha256Init mod = .ok j ↔
      (mod = 0 ∧ .sha256Init .sha224 = j) ∨ (mod = 1 ∧ .sha256Init .sha256 = j) :=
  variantCheck_eq_ok mod _ _ _ j

theorem decodeSha512Init_eq_ok (mod : Byte) (j : Instr) :
    decodeSha512Init mod = .ok j ↔
      (mod = 0 ∧ .sha512Init .sha384 = j) ∨ (mod = 1 ∧ .sha512Init .sha512 = j) :=
  variantCheck_eq_ok mod _ _ _ j

theorem decodePositionSet_eq_ok (mod : Byte) (high32 low32 : Word) (j : Instr) :
    decodePositionSet mod high32 low32 = .ok j ↔ mod.toNat < 64 ∧ .chacha20PositionSet mod high32 low32 = j := by
  have hmod : mod.extractLsb' 6 2 = 0 ↔ mod.toNat < 64 := by
    have h0 : (0 : BitVec 2).toNat = 0 := rfl
    rw [← BitVec.toNat_inj, BitVec.extractLsb'_toNat, Nat.shiftRight_eq_div_pow, h0]
    omega
  rw [decodePositionSet, check_eq_ok, hmod, Except.ok.injEq]

theorem decode_eq_ok (f : Frame) (i : Instr) :
    decode f = .ok i ↔ fieldRsv f.w0 = 0 ∧ decodeOpcode (fieldOpcode f.w0) (fieldMod f.w0) f = .ok i := by
  rw [decode, check_eq_ok]

theorem decode_of_commandWord {f : Frame} {opcode mod : Byte} (h : commandWord opcode mod = f.w0) :
    decode f = decodeOpcode opcode mod f := by
  obtain ⟨hrsv, hopcode⟩ := Laws.EncodedWord.commandWord_fields opcode mod
  rw [decode, ← h, if_pos hrsv, hopcode, fieldMod_commandWord]

/-! ### The decoder as the inverse of the encoder -/

/-- The command word and the first `n` operand words of a frame, the other words zero (R97 (d), R101). -/
def usedWords (n : Nat) (f : Frame) : Frame :=
  { w0 := f.w0, a0 := if 1 ≤ n then f.a0 else 0, a1 := if 2 ≤ n then f.a1 else 0, a2 := if 3 ≤ n then f.a2 else 0 }

theorem usedWords_w0 (n : Nat) (f : Frame) : (usedWords n f).w0 = f.w0 := rfl

theorem usedWords_one (f : Frame) : usedWords 1 f = { w0 := f.w0, a0 := f.a0, a1 := 0, a2 := 0 } := rfl

theorem usedWords_two (f : Frame) : usedWords 2 f = { w0 := f.w0, a0 := f.a0, a1 := f.a1, a2 := 0 } := rfl

theorem usedWords_three (f : Frame) : usedWords 3 f = f := rfl

/-- What the opcode map answers for a command word is well formed and encodes to it. -/
theorem encode_of_decodeOpcode {opcode mod : Byte} {f : Frame} {i : Instr} (hw : commandWord opcode mod = f.w0)
    (h : decodeOpcode opcode mod f = .ok i) :
    i.wellFormed = true ∧ encode i = usedWords (operandWords i) f := by
  rw [usedWords, ← hw]
  unfold decodeOpcode at h
  split at h
  case h_2 => -- MD5_DATAADD
    obtain ⟨rfl, hlen, rfl⟩ := (decodeMd5DataAdd_eq_ok _ _ _ _).mp h
    exact ⟨decide_eq_true (by simp only [Config.md5MaxLength]; omega), rfl⟩
  case h_4 => -- SHA256_INIT
    obtain ⟨rfl, rfl⟩ | ⟨rfl, rfl⟩ := (decodeSha256Init_eq_ok _ _).mp h
    · exact ⟨rfl, rfl⟩
    · exact ⟨rfl, rfl⟩
  case h_7 => -- SHA512_INIT
    obtain ⟨rfl, rfl⟩ | ⟨rfl, rfl⟩ := (decodeSha512Init_eq_ok _ _).mp h
    · exact ⟨rfl, rfl⟩
    · exact ⟨rfl, rfl⟩
  case h_10 => -- CHACHA20_KEYEXPAND
    obtain rfl := Except.ok.inj h
    exact ⟨rfl, rfl⟩
  case h_12 => -- CHACHA20_POSITIONSET
    obtain ⟨hmod, rfl⟩ := (decodePositionSet_eq_ok _ _ _ _).mp h
    exact ⟨decide_eq_true hmod, rfl⟩
  case h_13 => nomatch h -- no opcode
  all_goals -- the opcodes without a modifier
    obtain ⟨rfl, rfl⟩ := (decodePlain_eq_ok _ _ _ _).mp h
    exact ⟨rfl, rfl⟩

/-- A frame that holds a well-formed command's words in the places the command uses decodes to it. -/
theorem decode_of_encode_eq_usedWords {f : Frame} {i : Instr} (hi : i.wellFormed = true)
    (h : encode i = usedWords (operandWords i) f) : decode f = .ok i := by
  have hw0 : (encode i).w0 = f.w0 := (congrArg Frame.w0 h).trans (usedWords_w0 _ f)
  cases i with
  | md5Init => exact decode_of_commandWord hw0
  | sha256Init variant | sha512Init variant => cases variant <;> exact decode_of_commandWord hw0
  | md5Calc | sha256Calc | sha512Calc =>
    obtain ⟨-, rfl, -⟩ := Frame.mk.inj (h.trans (usedWords_one f))
    exact decode_of_commandWord hw0
  | sha256DataAdd | sha512DataAdd | chacha20KeyExpand =>
    obtain ⟨-, rfl, rfl, -⟩ := Frame.mk.inj (h.trans (usedWords_two f))
    exact decode_of_commandWord hw0
  | chacha20Encrypt =>
    obtain ⟨-, rfl, rfl, rfl⟩ := Frame.mk.inj (h.trans (usedWords_three f))
    exact decode_of_commandWord hw0
  | md5DataAdd data length =>
    obtain ⟨-, rfl, rfl, -⟩ := Frame.mk.inj (h.trans (usedWords_two f))
    have hlen : f.a1.toNat ≤ 65535 := of_decide_eq_true hi
    rw [decode_of_commandWord hw0]
    exact (decodeMd5DataAdd_eq_ok _ _ _ _).mpr ⟨rfl, by omega, rfl⟩
  | chacha20PositionSet upper6 high32 low32 =>
    obtain ⟨-, rfl, rfl, -⟩ := Frame.mk.inj (h.trans (usedWords_two f))
    rw [decode_of_commandWord hw0]
    exact (decodePositionSet_eq_ok _ _ _ _).mpr ⟨of_decide_eq_true hi, rfl⟩

/-- A frame decodes to a command exactly where the command is well formed and encodes to the words it uses. -/
theorem decode_eq_ok_iff_encode (f : Frame) (i : Instr) :
    decode f = .ok i ↔ i.wellFormed = true ∧ encode i = usedWords (operandWords i) f := by
  constructor
  · intro h
    obtain ⟨hrsv, hmap⟩ := (decode_eq_ok f i).mp h
    exact encode_of_decodeOpcode (commandWord_of_fields hrsv) hmap
  · rintro ⟨hi, h⟩
    exact decode_of_encode_eq_usedWords hi h

theorem usedWords_encode (i : Instr) : usedWords (operandWords i) (encode i) = encode i := by
  cases i with
  | sha256Init variant | sha512Init variant => cases variant <;> rfl
  | _ => rfl

/-- Settles O1: the frame of a command holds zero in the words the command does not use. -/
theorem decodeOfEncode : Obligations.DecodeOfEncode := fun i hi =>
  (decode_eq_ok_iff_encode (encode i) i).mpr ⟨hi, (usedWords_encode i).symm⟩

/-- Settles O4: what a frame decodes to encodes to the words of the frame that it uses. -/
theorem decodedCommandReencodes : Obligations.DecodedCommandReencodes := fun f i =>
  (decode_eq_ok_iff_encode f i).mp

/-- Settles O5: the two frames have the same used words. -/
theorem unusedOperandWordsIgnored : Obligations.UnusedOperandWordsIgnored := by
  intro f g i h hw0 ha0 ha1 ha2
  have hused : usedWords (operandWords i) g = usedWords (operandWords i) f := by
    rw [usedWords, usedWords, hw0, ite_congr rfl ha0 fun _ => rfl, ite_congr rfl ha1 fun _ => rfl,
      ite_congr rfl ha2 fun _ => rfl]
  rw [decode_eq_ok_iff_encode] at h ⊢
  rwa [hused]

/-! ### Illegal frames (R97 (a) to (c)) -/

theorem exists_error_iff_not_exists_ok (r : Except DecodeError Instr) :
    (∃ e, r = .error e) ↔ ¬∃ i, r = .ok i := by
  cases r <;> simp

section
variable (opcode mod : Byte) (f : Frame)

theorem exists_decodePlain_eq_ok (i : Instr) : (∃ j, decodePlain opcode mod i = .ok j) ↔ mod.toNat < 1 := by
  simp only [decodePlain_eq_ok, exists_and_left, exists_eq', and_true]
  bv_omega

theorem exists_decodeMd5DataAdd_eq_ok (data length : Word) :
    (∃ j, decodeMd5DataAdd mod data length = .ok j) ↔ mod.toNat < 1 ∧ length.toNat / 2 ^ 16 = 0 := by
  simp only [decodeMd5DataAdd_eq_ok, exists_and_left, exists_eq', and_true]
  bv_omega

theorem exists_decodeSha256Init_eq_ok : (∃ j, decodeSha256Init mod = .ok j) ↔ mod.toNat < 2 := by
  simp only [decodeSha256Init_eq_ok, exists_or, exists_and_left, exists_eq', and_true]
  bv_omega

theorem exists_decodeSha512Init_eq_ok : (∃ j, decodeSha512Init mod = .ok j) ↔ mod.toNat < 2 := by
  simp only [decodeSha512Init_eq_ok, exists_or, exists_and_left, exists_eq', and_true]
  bv_omega

theorem exists_decodePositionSet_eq_ok (high32 low32 : Word) :
    (∃ j, decodePositionSet mod high32 low32 = .ok j) ↔ mod.toNat < 64 := by
  simp only [decodePositionSet_eq_ok, exists_and_left, exists_eq', and_true]

/-- The opcode map answers a command exactly for an opcode of R93 with a modifier of R94 and a length of R97 (c). -/
theorem exists_decodeOpcode_eq_ok :
    (∃ i, decodeOpcode opcode mod f = .ok i) ↔
      opcode.toNat ∈ refOpcodes ∧ mod.toNat < refModLimit opcode.toNat ∧
        (opcode.toNat = 0x01 → f.a1.toNat / 2 ^ 16 = 0) := by
  unfold decodeOpcode
  split
  case h_2 => simp [refOpcodes, refModLimit, exists_decodeMd5DataAdd_eq_ok]
  case h_4 => simp [refOpcodes, refModLimit, exists_decodeSha256Init_eq_ok]
  case h_7 => simp [refOpcodes, refModLimit, exists_decodeSha512Init_eq_ok]
  case h_10 => simpa [refOpcodes, refModLimit] using mod.isLt
  case h_12 => simp [refOpcodes, refModLimit, exists_decodePositionSet_eq_ok]
  case h_13 => -- no opcode
    have hopcode : opcode.toNat ∉ refOpcodes := by
      simp only [refOpcodes, List.mem_cons, List.not_mem_nil, or_false, imp_false] at *
      bv_omega
    exact iff_of_false nofun fun h => hopcode h.1
  all_goals simp [refOpcodes, refModLimit, exists_decodePlain_eq_ok]

end

/-- Settles O3: the reference's list of illegal frames is the negation of what decodes to a command. -/
theorem decodeRefusesExactlyIllegalFrames : Obligations.DecodeRefusesExactlyIllegalFrames := by
  intro f
  rw [exists_error_iff_not_exists_ok]
  simp only [decode_eq_ok, exists_and_left, exists_decodeOpcode_eq_ok, fieldRsv, extractLsb'_high_eq_zero_iff,
    fieldOpcode_toNat, fieldMod_toNat]
  simp only [refIllegal, not_and_or, not_lt, Classical.not_imp, ne_eq]

/-! ### Responses -/

theorem keyLengthValid_iff_toNat (keyLength : Byte) :
    keyLengthValid keyLength = true ↔ keyLength.toNat = 16 ∨ keyLength.toNat = 32 := by
  simp only [keyLengthValid, Bool.or_eq_true, decide_eq_true_eq]
  bv_omega

/-- Settles O52: a command that completes answers OK, and an exception its code. -/
theorem responseOfEveryCommand : Obligations.ResponseOfEveryCommand := by
  intro i s t ht
  cases i with
  | md5Init =>
    obtain rfl := (execMd5Init_next s t).mp ht
    rfl
  | md5DataAdd data length =>
    obtain ⟨-, -, rfl⟩ := (execMd5DataAdd_next data length s t).mp ht
    rfl
  | md5Calc outDigest =>
    obtain ⟨-, -, rfl⟩ := (execMd5Calc_next outDigest s t).mp ht
    rfl
  | sha256Init variant =>
    obtain rfl := (execSha256Init_next variant s t).mp ht
    rfl
  | sha256DataAdd data length =>
    obtain ⟨-, -, rfl⟩ := (execSha256DataAdd_next data length s t).mp ht
    rfl
  | sha256Calc outDigest =>
    obtain ⟨-, -, rfl⟩ := (execSha256Calc_next outDigest s t).mp ht
    rfl
  | sha512Init variant =>
    obtain rfl := (execSha512Init_next variant s t).mp ht
    rfl
  | sha512DataAdd data length =>
    obtain ⟨-, -, rfl⟩ := (execSha512DataAdd_next data length s t).mp ht
    rfl
  | sha512Calc outDigest =>
    obtain ⟨-, -, rfl⟩ := (execSha512Calc_next outDigest s t).mp ht
    rfl
  | chacha20KeyExpand nonce key keyLength =>
    obtain ⟨hlen, -, -, rfl⟩ | ⟨hlen, rfl⟩ := (execChacha20KeyExpand_next nonce key keyLength s t).mp ht
    · exact (if_pos ((keyLengthValid_iff_toNat keyLength).mp hlen)).symm
    · have hlen' : ¬(keyLength.toNat = 16 ∨ keyLength.toNat = 32) := by simp [← keyLengthValid_iff_toNat, hlen]
      exact (if_neg hlen').symm
  | chacha20Encrypt output message length =>
    obtain ⟨-, -, -, -, rfl⟩ := (execChacha20Encrypt_next output message length s t).mp ht
    rfl
  | chacha20PositionSet upper6 high32 low32 =>
    obtain ⟨-, rfl⟩ := (execChacha20PositionSet_next upper6 high32 low32 s t).mp ht
    rfl

/-! ### Worked encodings -/

/-- Settles O2: the legal rows are the encodings of well-formed commands and so decode to them (O1); each illegal row
falls under its clause of R97 (O3). -/
theorem workedEncodings : Obligations.WorkedEncodings := by
  refine ⟨fun p hp => ?_, fun s => (execChacha20KeyExpand_next _ _ _ s _).mpr (.inr ⟨rfl, rfl⟩), fun a0 a1 a2 => ?_⟩
  · have ⟨hwf, hencode⟩ : p.1.wellFormed = true ∧ encode p.1 = p.2 := by
      revert p
      decide
    exact ⟨hencode, hencode ▸ decodeOfEncode p.1 hwf⟩
  · have hopcode : (0x00000003 : Word).toNat % 256 ∉ refOpcodes := by decide
    have hmod : refModLimit ((0x00000210 : Word).toNat % 256) ≤ (0x00000210 : Word).toNat / 256 % 256 := by decide
    have hlength : (0x00000001 : Word).toNat % 256 = 0x01 ∧ (0x00010000 : Word).toNat / 2 ^ 16 ≠ 0 := by decide
    have hrsv : (0x00010000 : Word).toNat / 2 ^ 16 ≠ 0 := by decide
    simp only [decodeRefusesExactlyIllegalFrames _]
    exact ⟨.inr (.inl hopcode), .inr (.inr (.inl hmod)), .inr (.inr (.inr hlength)), .inl hrsv⟩

end Sys2Proof.Machine
end

section
/-! The streaming shape of the hash engines against one-shot hashing (R28, R136, R137), for any compression and block
size: what a byte of E_DATAADD and the padding of E_CALC do to a context that has absorbed a message. -/

namespace Sys2Proof.Machine

section
variable {H : Type} {B : Nat} (compress : H → Vector Byte B → H)

/-! ### The whole blocks of a message -/

/-- Every message is whole blocks and a rest shorter than a block. -/
theorem exists_whole_append_rest (hB : 0 < B) (m : List Byte) :
    ∃ whole rest : List Byte, m = whole ++ rest ∧ B ∣ whole.length ∧ rest.length < B := by
  have hle : B * (m.length / B) ≤ m.length := Nat.mul_div_le _ _
  refine ⟨m.take (B * (m.length / B)), m.drop (B * (m.length / B)), (List.take_append_drop _ _).symm, ?_, ?_⟩
  · rw [List.length_take_of_le hle]
    exact Nat.dvd_mul_right _ _
  · rw [List.length_drop, ← Nat.mod_eq_sub_mul_div]
    exact Nat.mod_lt _ hB

theorem length_whole_append_rest_mod {whole rest : List Byte} (hw : B ∣ whole.length) (hr : rest.length < B) :
    (whole ++ rest).length % B = rest.length := by
  rw [List.length_append, Nat.add_mod, Nat.mod_eq_zero_of_dvd hw, Nat.zero_add, Nat.mod_mod, Nat.mod_eq_of_lt hr]

theorem refBlocks_of_length_lt {m : List Byte} (h : m.length < B) : refBlocks B m = [] := by
  simp [refBlocks, Nat.div_eq_of_lt h]

theorem refBlocks_append {whole : List Byte} (hw : B ∣ whole.length) (m : List Byte) :
    refBlocks B (whole ++ m) = refBlocks B whole ++ refBlocks B m := by
  obtain ⟨q, hq⟩ := hw
  obtain rfl | hB := Nat.eq_zero_or_pos B
  · simp [refBlocks]
  have hcount : (whole ++ m).length / B = q + m.length / B := by
    rw [List.length_append, hq, Nat.mul_add_div hB]
  have hwhole : whole.length / B = q := by rw [hq, Nat.mul_div_cancel_left _ hB]
  rw [refBlocks, hcount, List.range_add, List.map_append, List.map_map, refBlocks, refBlocks, hwhole]
  congr 1
  · refine List.map_congr_left fun i hi => Vector.ext fun j hj => ?_
    have hi' : i + 1 ≤ q := List.mem_range.mp hi
    have hlt : B * i + j < whole.length := by
      have := Nat.mul_le_mul_left B hi'
      rw [Nat.mul_add] at this
      omega
    simp [List.getElem?_append_left hlt]
  · refine List.map_congr_left fun i _ => Vector.ext fun j hj => ?_
    have hge : whole.length ≤ B * (q + i) + j := by rw [hq, Nat.mul_add]; omega
    have hsub : B * (q + i) + j - whole.length = B * i + j := by rw [hq, Nat.mul_add]; omega
    simp [List.getElem?_append_right hge, hsub]

theorem refBlocks_toList (hB : 0 < B) (block : Vector Byte B) : refBlocks B block.toList = [block] := by
  have hcount : block.toList.length / B = 1 := by simp [Nat.div_self hB]
  rw [refBlocks, hcount, List.range_one, List.map_singleton]
  congr 1
  exact Vector.ext fun j hj => by simp

theorem refChain_append {whole : List Byte} (hw : B ∣ whole.length) (h : H) (m : List Byte) :
    refChain compress h (whole ++ m) = refChain compress (refChain compress h whole) m := by
  simp only [refChain, refBlocks_append hw, List.foldl_append]

theorem refChain_of_length_lt (h : H) {m : List Byte} (hm : m.length < B) : refChain compress h m = h := by
  simp only [refChain, refBlocks_of_length_lt hm, List.foldl_nil]

theorem refChain_toList (hB : 0 < B) (h : H) (block : Vector Byte B) :
    refChain compress h block.toList = compress h block := by
  rw [refChain, refBlocks_toList hB, List.foldl_cons, List.foldl_nil]

/-! ### Absorbing a byte (R136) -/

/-- What a context has absorbed, with the whole blocks and the rest of the message told apart. -/
theorem absorbed_append_iff {iv h : H} {buf : Vector Byte B} {whole rest : List Byte} (hw : B ∣ whole.length)
    (hr : rest.length < B) :
    absorbed compress iv h buf (whole ++ rest) ↔
      h = refChain compress iv whole ∧ buf.toList.take rest.length = rest := by
  have hfill := length_whole_append_rest_mod hw hr
  have hstart : B * ((whole ++ rest).length / B) = whole.length := by
    have := Nat.mod_add_div (whole ++ rest).length B
    rw [hfill, List.length_append] at this
    rw [List.length_append]
    omega
  have hbyte (i : Nat) : (whole ++ rest).getD (whole.length + i) 0 = rest.getD i 0 := by
    simp [List.getElem?_append_right]
  rw [absorbed, refChain_append compress hw, refChain_of_length_lt compress _ hr, hfill, hstart]
  simp only [hbyte]
  refine and_congr_right fun _ => ⟨fun hbuf => ?_, fun hbuf i hi => ?_⟩
  · refine List.ext_getElem (by simp; omega) fun i hi hi' => ?_
    simpa [hi'] using hbuf ⟨i, by omega⟩ hi'
  · have := congrArg (·.getD i.val 0) hbuf
    simpa [hi] using this

theorem take_toList_setIfInBounds (buf : Vector Byte B) {fill : Nat} (hfill : fill < B) (b : Byte) :
    (buf.setIfInBounds fill b).toList.take (fill + 1) = buf.toList.take fill ++ [b] := by
  have hlen : fill < buf.toList.length := by simpa using hfill
  rw [Vector.toList_setIfInBounds, List.set_eq_take_append_cons_drop, if_pos hlen]
  simp [List.take_append, hfill.le]

/-- A byte of E_DATAADD appends it to what the context has absorbed: it joins the partial block, and the block it fills
becomes the last of the whole blocks. -/
theorem absorbed_absorbByte {iv h : H} {buf : Vector Byte B} {m : List Byte} (hB : 0 < B)
    (habs : absorbed compress iv h buf m) (b : Byte) :
    absorbed compress iv (absorbByte compress (m.length % B) b h buf).1
      (absorbByte compress (m.length % B) b h buf).2 (m ++ [b]) := by
  obtain ⟨whole, rest, rfl, hw, hr⟩ := exists_whole_append_rest hB m
  obtain ⟨rfl, hrest⟩ := (absorbed_append_iff compress hw hr).mp habs
  have hfill := length_whole_append_rest_mod hw hr
  have hjoined : (buf.setIfInBounds rest.length b).toList.take (rest.length + 1) = rest ++ [b] := by
    rw [take_toList_setIfInBounds buf hr, hrest]
  rw [hfill, List.append_assoc, absorbByte]
  by_cases hfull : rest.length = B - 1
  · have hblock : (buf.setIfInBounds rest.length b).toList = rest ++ [b] := by
      rw [← hjoined, List.take_of_length_le (by simp; omega)]
    have hw' : B ∣ (whole ++ (rest ++ [b])).length := by
      rw [← hblock]
      simpa using hw
    rw [if_pos hfull, ← List.append_nil (whole ++ (rest ++ [b])), absorbed_append_iff compress hw' (rest := []) hB,
      ← hblock, refChain_append compress hw, refChain_toList compress hB]
    exact ⟨rfl, rfl⟩
  · rw [if_neg hfull, absorbed_append_iff compress hw (by simp; omega)]
    exact ⟨rfl, by simpa using hjoined⟩

/-! ### Padding (R137) -/

theorem padMarker_toList (buf : Vector Byte B) {fill : Nat} (hfill : fill < B) :
    (padMarker buf fill).toList = buf.toList.take fill ++ 0x80 :: List.replicate (B - (fill + 1)) 0 := by
  have hlen : (buf.toList.take fill).length = fill := by simp [hfill.le]
  refine List.ext_getElem (by simp; omega) fun i hi _ => ?_
  obtain hlt | rfl | hgt := Nat.lt_trichotomy i fill
  · rw [List.getElem_append_left (by omega)]
    simp [padMarker, hlt]
  · simp [padMarker, List.getElem_append_right hlen.le, hlen]
  · have hpos : i - fill = i - (fill + 1) + 1 := by omega
    rw [List.getElem_append_right (by omega)]
    simp [padMarker, hlen, hpos, hgt.le, hgt.ne']

theorem placeLength_toList (block : Vector Byte B) {field : List Byte} (hfield : field.length ≤ B) :
    (placeLength block field).toList = block.toList.take (B - field.length) ++ field := by
  have hlen : (block.toList.take (B - field.length)).length = B - field.length := by simp
  refine List.ext_getElem (by simp; omega) fun i hi _ => ?_
  have hi' : i < B := by simpa using hi
  by_cases hlt : i < B - field.length
  · rw [List.getElem_append_left (by omega)]
    simp [placeLength, hlt]
  · have hin : i - (B - field.length) < field.length := by omega
    rw [List.getElem_append_right (by omega)]
    simp [placeLength, hlt, hlen, hin]

/-- The padding of a message is that of its rest (R16). -/
theorem refPadded_append {whole : List Byte} (hw : B ∣ whole.length) (field rest : List Byte) :
    refPadded B field (whole ++ rest) = whole ++ refPadded B field rest := by
  have hlen : (whole ++ rest).length + 1 + field.length = whole.length + (rest.length + 1 + field.length) := by
    rw [List.length_append]
    omega
  rw [refPadded, refPadded, List.append_assoc, hlen, Nat.add_mod, Nat.mod_eq_zero_of_dvd hw, Nat.zero_add, Nat.mod_mod]

/-- The one-shot chaining value of a message that a context has absorbed: its padding ends the partial block. -/
theorem absorbed.refChain_refPadded {iv h : H} {buf : Vector Byte B} {m : List Byte} (hB : 0 < B)
    (habs : absorbed compress iv h buf m) (field : List Byte) :
    refChain compress iv (refPadded B field m) =
      refChain compress h (refPadded B field (buf.toList.take (m.length % B))) := by
  obtain ⟨whole, rest, rfl, hw, hr⟩ := exists_whole_append_rest hB m
  obtain ⟨rfl, hrest⟩ := (absorbed_append_iff compress hw hr).mp habs
  rw [refPadded_append hw, refChain_append compress hw, length_whole_append_rest_mod hw hr, hrest]

/-- How many zeros complete a block. -/
theorem zeros_to_block_end {n : Nat} (hpos : 0 < n) (hle : n ≤ B) : (B - n % B) % B = B - n := by
  obtain rfl | hlt := hle.eq_or_lt
  · simp
  · rw [Nat.mod_eq_of_lt hlt, Nat.mod_eq_of_lt (by omega)]

/-- A rest that leaves room for the length field is padded to one block. -/
theorem refPadded_one_block {rest field : List Byte} (h : rest.length + 1 + field.length ≤ B) :
    refPadded B field rest =
      rest ++ 0x80 :: (List.replicate (B - (rest.length + 1 + field.length)) 0 ++ field) := by
  rw [refPadded, zeros_to_block_end (by omega) h]

/-- A rest that does not is padded to two: the zeros complete the block of the marker and lead up to the length field
in a block of their own. -/
theorem refPadded_two_blocks {rest field : List Byte} (hrest : rest.length < B) (hfield : field.length ≤ B)
    (h : B < rest.length + 1 + field.length) :
    refPadded B field rest =
      (rest ++ 0x80 :: List.replicate (B - (rest.length + 1)) 0) ++
        (List.replicate (B - field.length) 0 ++ field) := by
  obtain ⟨n, hn⟩ := Nat.exists_eq_add_of_lt h
  have hzeros : B - (n + 1) = B - (rest.length + 1) + (B - field.length) := by omega
  rw [refPadded, hn, Nat.add_assoc, Nat.add_mod_left, zeros_to_block_end (by omega) (by omega), hzeros,
    ← List.replicate_append_replicate]
  simp only [List.append_assoc, List.cons_append]

/-- E_CALC's one or two compressions are those of the padded partial block. -/
theorem finishHash_eq_refChain (h : H) (buf : Vector Byte B) {fill : Nat} {field : List Byte} (hfill : fill < B)
    (hfield : field.length ≤ B) :
    finishHash compress h buf fill field = refChain compress h (refPadded B field (buf.toList.take fill)) := by
  have hB : 0 < B := by omega
  have hlen : (buf.toList.take fill).length = fill := by simp [hfill.le]
  rw [finishHash]
  split_ifs with hfits
  · have hpadded : refPadded B field (buf.toList.take fill) =
        (padMarker buf fill).toList ++ (placeLength (Vector.replicate B 0) field).toList := by
      rw [refPadded_two_blocks (by omega) hfield (by omega), hlen, padMarker_toList buf hfill,
        placeLength_toList _ hfield]
      simp
    rw [hpadded, refChain_append compress (by simp), refChain_toList compress hB, refChain_toList compress hB]
  · have hzeros : B - (fill + 1) = B - (fill + 1 + field.length) + field.length := by omega
    have hmarker : (padMarker buf fill).toList =
        (buf.toList.take fill ++ 0x80 :: List.replicate (B - (fill + 1 + field.length)) 0) ++
          List.replicate field.length 0 := by
      rw [padMarker_toList buf hfill, hzeros, ← List.replicate_append_replicate]
      simp
    have hpadded : refPadded B field (buf.toList.take fill) = (placeLength (padMarker buf fill) field).toList := by
      rw [refPadded_one_block (by omega), hlen, placeLength_toList _ hfield, hmarker,
        List.take_left' (by simp [hfill.le]; omega)]
      simp
    rw [hpadded, refChain_toList compress hB]

end

end Sys2Proof.Machine
end

section
/-! Valid buffers by parts (R62), and E_DATAADD over a split buffer (R136 (d), R167, R197) and over an empty one (D19),
for the three hash engines. -/

namespace Sys2Proof.Machine

/-! ### Parts of a valid buffer -/

section
variable {pl : Platform} {p : Word} {n k : Nat} (h : BufferValid pl p (n + k))
include h

theorem BufferValid.length_lt : n + k < 2 ^ 32 := by
  obtain ⟨hp, htop, -⟩ := h
  bv_omega

theorem BufferValid.first : BufferValid pl p n := by
  obtain ⟨hp, htop, hmapped⟩ := h
  exact ⟨hp, by omega, fun i hi => hmapped i (by omega)⟩

theorem BufferValid.toNat_add (hk : 0 < k) : (p + BitVec.ofNat 32 n).toNat = p.toNat + n := by
  obtain ⟨-, htop, -⟩ := h
  rw [BitVec.toNat_add, BitVec.toNat_ofNat]
  omega

theorem BufferValid.second (hk : 0 < k) : BufferValid pl (p + BitVec.ofNat 32 n) k := by
  have hstart := h.toNat_add hk
  obtain ⟨hp, htop, hmapped⟩ := h
  refine ⟨fun h0 => hp ?_, by omega, fun i hi => ?_⟩
  · rw [h0] at hstart
    bv_omega
  · rw [hstart, Nat.add_assoc]
    exact hmapped (n + i) (by omega)

end

theorem bufferValid_zero {pl : Platform} {p : Word} (h : p ≠ 0) : BufferValid pl p 0 :=
  ⟨h, p.isLt.le, nofun⟩

/-! ### E_DATAADD over a split buffer -/

theorem md5Length_ofNat {n : Nat} (h : n ≤ 65535) : md5Length (BitVec.ofNat 32 n) = n := by
  rw [md5Length_eq, BitVec.toNat_ofNat]
  omega

/-- What the E_DATAADD commands have in common: for a valid buffer and in the right phase, `command` absorbs the bytes
of the buffer one after the other, and it keeps the phase, the parameters and memory. -/
structure IsDataAdd (e : HashEngine) (command : Word → Word → Instr) (count : Word → Nat)
    (phase : State → Phase) (absorb : State → List Byte → State) : Prop where
  exec_of_valid : ∀ (s : State) (data length : Word), BufferValid s.platform data (count length) →
    exec (command data length) s =
      requireAccumulating e (phase s) (.next (absorb s (s.mem.readBytes data.toNat (count length))))
  absorb_append : ∀ (s : State) (x y : List Byte), absorb s (x ++ y) = absorb (absorb s x) y
  absorb_phase : ∀ (s : State) (x : List Byte), phase (absorb s x) = phase s
  absorb_platform : ∀ (s : State) (x : List Byte), (absorb s x).platform = s.platform
  absorb_mem : ∀ (s : State) (x : List Byte), (absorb s x).mem = s.mem

/-- The state after an MD5_DATAADD of these bytes. -/
def State.addMd5 (s : State) (bytes : List Byte) : State := (s.withMd5 (md5Absorb s.md5 bytes)).withResp 0

/-- The state after a SHA256_DATAADD of these bytes. -/
def State.addS256 (s : State) (bytes : List Byte) : State := (s.withS256 (sha256Absorb s.s256 bytes)).withResp 0

/-- The state after a SHA512_DATAADD of these bytes. -/
def State.addS512 (s : State) (bytes : List Byte) : State :=
  (s.withS512 (sha512Absorb s.platform.sha512CounterBits s.s512 bytes)).withResp 0

theorem md5DataAdd_isDataAdd : IsDataAdd .md5 .md5DataAdd md5Length (·.md5.phase) State.addMd5 where
  exec_of_valid s data length h := by
    rw [exec, execMd5DataAdd, requireBuffer_of_valid h]
    rfl
  absorb_append s x y := by
    rw [State.addMd5, md5Absorb_append]
    rfl
  absorb_phase s x := md5Absorb_phase s.md5 x
  absorb_platform _ _ := rfl
  absorb_mem _ _ := rfl

theorem sha256DataAdd_isDataAdd : IsDataAdd .sha256 .sha256DataAdd wordLength (·.s256.phase) State.addS256 where
  exec_of_valid s data length h := by
    rw [exec, execSha256DataAdd, requireBuffer_of_valid h]
    rfl
  absorb_append s x y := by
    rw [State.addS256, sha256Absorb_append]
    rfl
  absorb_phase s x := sha256Absorb_phase s.s256 x
  absorb_platform _ _ := rfl
  absorb_mem _ _ := rfl

theorem sha512DataAdd_isDataAdd : IsDataAdd .sha512 .sha512DataAdd wordLength (·.s512.phase) State.addS512 where
  exec_of_valid s data length h := by
    rw [exec, execSha512DataAdd, requireBuffer_of_valid h]
    rfl
  absorb_append s x y := by
    rw [State.addS512, sha512Absorb_append]
    rfl
  absorb_phase s x := sha512Absorb_phase _ s.s512 x
  absorb_platform _ _ := rfl
  absorb_mem _ _ := rfl

/-- Where the phase admits them, the two commands absorb the bytes of the one, in its order; where it does not, the
first of the two is refused as the one is. -/
theorem IsDataAdd.split {e : HashEngine} {command : Word → Word → Instr} {count : Word → Nat}
    {phase : State → Phase} {absorb : State → List Byte → State} (hc : IsDataAdd e command count phase absorb)
    {s : State} {data : Word} {n k : Nat} (hk : 0 < k) (hvalid : BufferValid s.platform data (n + k))
    (hcount : ∀ i ≤ n + k, count (BitVec.ofNat 32 i) = i) :
    exec (command data (BitVec.ofNat 32 (n + k))) s =
      andThen (exec (command data (BitVec.ofNat 32 n)) s)
        (exec (command (data + BitVec.ofNat 32 n) (BitVec.ofNat 32 k))) := by
  have hnk := hcount (n + k) le_rfl
  have hn := hcount n (Nat.le_add_right n k)
  have hk' := hcount k (Nat.le_add_left k n)
  have hsecond : BufferValid (absorb s (s.mem.readBytes data.toNat n)).platform (data + BitVec.ofNat 32 n) k := by
    rw [hc.absorb_platform]
    exact hvalid.second hk
  rw [hc.exec_of_valid s data _ (hnk.symm ▸ hvalid), hc.exec_of_valid s data _ (hn.symm ▸ hvalid.first), hnk, hn]
  cases hphase : phase s with
  | accumulating =>
    simp only [requireAccumulating_of_accumulating, andThen]
    rw [hc.exec_of_valid _ _ _ (hk'.symm ▸ hsecond), hk', hc.absorb_phase, hphase, hc.absorb_mem,
      hvalid.toNat_add hk, ← hc.absorb_append, ← Memory.readBytes_add, requireAccumulating_of_accumulating]
  | uninitialized | finalized => rfl

/-- Settles O19: the split holds of whatever absorbs the bytes of a buffer one after the other. -/
theorem dataAddSplitsAnywhere : Obligations.DataAddSplitsAnywhere := by
  intro s data n k hk hvalid
  have hlt := hvalid.length_lt
  have hword (i : Nat) (hi : i ≤ n + k) : wordLength (BitVec.ofNat 32 i) = i := by
    rw [wordLength_eq, BitVec.toNat_ofNat, Nat.mod_eq_of_lt (by omega)]
  exact ⟨fun hmax => md5DataAdd_isDataAdd.split hk hvalid fun i hi => md5Length_ofNat (hi.trans hmax),
    sha256DataAdd_isDataAdd.split hk hvalid hword, sha512DataAdd_isDataAdd.split hk hvalid hword⟩

/-! ### Length zero (D19, D20) -/

/-- Settles O18: a buffer of no bytes is valid at any pointer but 0, and the loops of the four commands do not run. -/
theorem zeroLengthChangesOnlyResp : Obligations.ZeroLengthChangesOnlyResp := by
  intro s p q hp hq
  have hvalid {r : Word} (hr : r ≠ 0) : BufferValid s.platform r (0 : Word).toNat := bufferValid_zero hr
  exact ⟨fun h => (execMd5DataAdd_next p 0 s _).mpr ⟨h, hvalid hp, rfl⟩,
    fun h => (execSha256DataAdd_next p 0 s _).mpr ⟨h, hvalid hp, rfl⟩,
    fun h => (execSha512DataAdd_next p 0 s _).mpr ⟨h, hvalid hp, rfl⟩,
    fun h => (execChacha20Encrypt_next p q 0 s _).mpr
      ⟨h, hvalid hp, hvalid hq, (overlapAllowed_eq_true p q _).mpr (.inr (le_total p.toNat q.toNat)), rfl⟩⟩

end Sys2Proof.Machine
end

section
/-! The MD5 engine (R130, R135 to R137): what its three commands leave, and that in sequence they compute the one-shot
digest of the whole message. -/

namespace Sys2Proof.Machine

/-! ### The bytes of words (R15) -/

theorem leByte_eq_refByte {n : Nat} (w : BitVec n) (k : Nat) : leByte w k = refByte w.toNat k := by
  have hpow : 2 ^ (8 * k) = 256 ^ k := Nat.pow_mul 2 8 k
  apply BitVec.eq_of_toNat_eq
  rw [leByte, refByte, BitVec.toNat_setWidth, BitVec.toNat_ushiftRight, BitVec.toNat_ofNat, Nat.shiftRight_eq_div_pow,
    hpow]

theorem leBytes_eq_refLittle {n : Nat} (w : BitVec n) (count : Nat) : leBytes w count = refLittle w.toNat count := by
  exact List.map_congr_left fun k _ => leByte_eq_refByte w k

theorem md5DigestOf_eq_refMd5Emit (h : Vector Word 4) : md5DigestOf h = refMd5Emit h := by
  simp only [md5DigestOf, refMd5Emit, leBytes_eq_refLittle]

/-- The 64-bit length field counts the bits of the 32-bit byte counter (R137, D13). -/
theorem md5LengthField_eq_refMd5Field (total : Word) : md5LengthField total = refMd5Field total.toNat := by
  have hbits : (total.setWidth 64 <<< 3).toNat = 8 * (total.toNat % 2 ^ 32) := by
    rw [BitVec.toNat_shiftLeft, BitVec.toNat_setWidth, Nat.shiftLeft_eq]
    omega
  rw [md5LengthField, leBytes_eq_refLittle, hbits, refMd5Field]

/-! ### MD5_INIT -/

/-- Settles O12: the frame is the encoding of MD5_INIT but for words it does not use, and the context is the one of
R135. -/
theorem md5InitResult : Obligations.Md5InitResult :=
  ⟨fun _ _ _ => decode_of_encode_eq_usedWords rfl rfl, fun s => (execMd5Init_next s _).mpr rfl⟩

/-! ### MD5_DATAADD -/

/-- Settles O15: the loop runs once. -/
theorem md5DataAddOneByte : Obligations.Md5DataAddOneByte := by
  intro s data hphase hvalid
  have htotal : s.md5.total + 1 = BitVec.ofNat 32 (s.md5.total.toNat + 1) := by
    rw [BitVec.ofNat_add, BitVec.ofNat_toNat, BitVec.setWidth_eq]
    rfl
  refine (execMd5DataAdd_next data 1 s _).mpr ⟨hphase, hvalid, ?_⟩
  rw [← htotal, ← hphase]
  rfl

theorem md5AbsorbByte_total (c : Md5Context) (b : Byte) : (md5AbsorbByte c b).total = c.total + 1 := rfl

theorem md5Absorb_cons (c : Md5Context) (b : Byte) (bytes : List Byte) :
    md5Absorb c (b :: bytes) = md5Absorb (md5AbsorbByte c b) bytes := rfl

theorem md5Absorb_total (c : Md5Context) (bytes : List Byte) :
    (md5Absorb c bytes).total = c.total + BitVec.ofNat 32 bytes.length := by
  induction bytes generalizing c with
  | nil => simp [md5Absorb]
  | cons b bytes ih =>
    rw [md5Absorb_cons, ih, md5AbsorbByte_total, List.length_cons, BitVec.ofNat_add, BitVec.add_assoc,
      BitVec.add_comm 1]
    rfl

/-- Settles O20: the command absorbs the bytes of the buffer, one step of the counter each. -/
theorem md5DataAddCompletes : Obligations.Md5DataAddCompletes := by
  intro s data length hphase hvalid
  rw [← md5Length_eq] at hvalid ⊢
  refine ⟨md5Absorb s.md5 (s.mem.readBytes data.toNat (md5Length length)),
    (execMd5DataAdd_next data length s _).mpr ⟨hphase, hvalid, rfl⟩, ?_, ?_⟩
  · rw [md5Absorb_total, Memory.readBytes_length]
  · rw [md5Absorb_phase, hphase]

/-! ### MD5_CALC -/

theorem md5Finish_eq_refChain (c : Md5Context) :
    md5Finish c =
      refChain md5Compress c.h
        (refPadded 64 (refMd5Field c.total.toNat) (c.buf.toList.take (c.total.toNat % 64))) := by
  have hfill : md5Fill c < 64 := Nat.mod_lt _ (by decide)
  rw [md5Finish, finishHash_eq_refChain md5Compress _ _ hfill (by simp [md5LengthField]), md5LengthField_eq_refMd5Field,
    md5Fill]

theorem readBytes_writeBytes_md5DigestOf (m : Memory) (a : Nat) (h : Vector Word 4) :
    (m.writeBytes a (md5DigestOf h)).readBytes a 16 = md5DigestOf h := by
  have hread := Memory.readBytes_writeBytes m a (md5DigestOf h)
  rwa [md5DigestOf_length] at hread

/-- Settles O23: the digest is that of the padded partial block, and what is written is read back. -/
theorem md5CalcResult : Obligations.Md5CalcResult := by
  intro s outDigest hphase hvalid
  refine ⟨md5Exhausted s.freeIndex, s.mem.writeBytes outDigest.toNat (md5DigestOf (md5Finish s.md5)),
    (execMd5Calc_next outDigest s _).mpr ⟨hphase, hvalid, ?_⟩, rfl, ?_, fun a ha => ?_⟩
  · rfl
  · rw [readBytes_writeBytes_md5DigestOf, md5DigestOf_eq_refMd5Emit, md5Finish_eq_refChain]
  · refine Memory.read_writeBytes_other _ _ _ ?_
    rwa [md5DigestOf_length]

/-! ### The commands in sequence (R28) -/

theorem md5Fresh_absorbed : md5Absorbed md5Fresh [] := ⟨rfl, rfl, rfl, nofun⟩

/-- The counter wraps at a multiple of the block size, so `fill` is that of the message (R28). -/
theorem md5Absorbed.fill {c : Md5Context} {m : List Byte} (h : md5Absorbed c m) : md5Fill c = m.length % 64 := by
  obtain ⟨-, htotal, -⟩ := h
  rw [md5Fill, htotal, Nat.mod_mod_of_dvd _ (by decide)]

theorem md5Absorbed.absorbByte {c : Md5Context} {m : List Byte} (h : md5Absorbed c m) (b : Byte) :
    md5Absorbed (md5AbsorbByte c b) (m ++ [b]) := by
  have hfill := h.fill
  obtain ⟨hphase, htotal, habs⟩ := h
  refine ⟨hphase, ?_, ?_⟩
  · rw [md5AbsorbByte_total, BitVec.toNat_add, htotal, List.length_append]
    simp
  · rw [md5AbsorbByte, hfill]
    exact absorbed_absorbByte md5Compress (by decide) habs b

theorem md5Absorbed.absorb {c : Md5Context} {m : List Byte} (h : md5Absorbed c m) (bytes : List Byte) :
    md5Absorbed (md5Absorb c bytes) (m ++ bytes) := by
  induction bytes generalizing c m with
  | nil => rwa [List.append_nil]
  | cons b bytes ih =>
    rw [md5Absorb_cons, List.append_cons]
    exact ih (h.absorbByte b)

/-- The digest of a context that has absorbed a message is the one-shot digest of that message. -/
theorem md5Absorbed.refMd5_eq {c : Md5Context} {m : List Byte} (h : md5Absorbed c m) :
    refMd5 m =
      refMd5Emit
        (refChain md5Compress c.h
          (refPadded 64 (refMd5Field c.total.toNat) (c.buf.toList.take (c.total.toNat % 64)))) := by
  have hfill : c.total.toNat % 64 = m.length % 64 := h.fill
  obtain ⟨-, htotal, habs⟩ := h
  have hfield : refMd5Field c.total.toNat = refMd5Field m.length := by
    rw [refMd5Field, htotal, Nat.mod_mod, refMd5Field]
  rw [hfill, hfield, refMd5, habs.refChain_refPadded md5Compress (by decide)]

/-- Settles O26: each command is a step of the relation `md5Absorbed` between contexts and messages. -/
theorem md5StreamingIsOneShot : Obligations.Md5StreamingIsOneShot := by
  refine ⟨fun s => ⟨_, (execMd5Init_next s _).mpr rfl, md5Fresh_absorbed⟩, fun s m data length habs hvalid => ?_,
    fun s m outDigest habs hvalid => ?_⟩
  · rw [← md5Length_eq] at hvalid ⊢
    exact ⟨_, (execMd5DataAdd_next data length s _).mpr ⟨habs.1, hvalid, rfl⟩, habs.absorb _⟩
  · obtain ⟨_, _, hexec, -, hdigest, -⟩ := md5CalcResult s outDigest habs.1 hvalid
    exact ⟨_, hexec, hdigest.trans habs.refMd5_eq.symm⟩

end Sys2Proof.Machine
end

section
/-! What the two SHA-2 engines have in common: big-endian words (R15), a schedule that grows by one word at a time
(R163, R193), the rotating window over it (R165, R195), and what a loop over bytes keeps. -/

namespace Sys2Proof.Machine

/-! ### Big-endian words (R15) -/

theorem toNat_append_byte {n : Nat} (w : BitVec n) (b : Byte) : (w ++ b).toNat = 256 * w.toNat + b.toNat := by
  rw [BitVec.toNat_append, ← Nat.shiftLeft_add_eq_or_of_lt b.isLt, Nat.shiftLeft_eq, Nat.mul_comm]

theorem beByte_eq_refByte {n count k : Nat} (w : BitVec n) (hn : n = 8 * count) (hk : k < count) :
    beByte w k = refByte w.toNat (count - 1 - k) := by
  have hshift : n - 8 - 8 * k = 8 * (count - 1 - k) := by omega
  rw [← leByte_eq_refByte, beByte, leByte, hshift]

theorem beBytes_eq_refBig {n count : Nat} (w : BitVec n) (hn : n = 8 * count) :
    beBytes w count = refBig w.toNat count :=
  List.map_congr_left fun _ hk => beByte_eq_refByte w hn (List.mem_range.mp hk)

/-! ### A loop over bytes -/

/-- A relation between contexts and messages that one byte keeps is kept by the bytes of a buffer. -/
theorem foldl_keeps_relation {C : Type} {absorbByte : C → Byte → C} {R : C → List Byte → Prop}
    (hbyte : ∀ c m b, R c m → R (absorbByte c b) (m ++ [b])) {c : C} {m : List Byte} (h : R c m)
    (bytes : List Byte) : R (bytes.foldl absorbByte c) (m ++ bytes) := by
  induction bytes generalizing c m with
  | nil => rwa [List.append_nil]
  | cons b bytes ih =>
    rw [List.foldl_cons, List.append_cons]
    exact ih (hbyte c m b h)

/-! ### A schedule that grows by one word at a time -/

section
variable {α : Type} (next : List α → α)

/-- The words, the latest first, with one more that is computed from them. -/
def growWords (before : List α) : List α := next before :: before

theorem length_growWords_iterate (n : Nat) (before : List α) :
    ((growWords next)^[n] before).length = before.length + n := by
  induction n with
  | zero => rfl
  | succ n ih =>
    rw [Function.iterate_succ_apply', growWords, List.length_cons, ih]
    rfl

/-- The words there were are the first of the schedule. -/
theorem getElem?_growWords_iterate_of_lt (n : Nat) (before : List α) {t : Nat} (ht : t < before.length) :
    ((growWords next)^[n] before).reverse[t]? = before.reverse[t]? := by
  induction n with
  | zero => rfl
  | succ n ih =>
    have hlt : t < ((growWords next)^[n] before).reverse.length := by
      rw [List.length_reverse, length_growWords_iterate]
      omega
    rw [Function.iterate_succ_apply', growWords, List.reverse_cons, List.getElem?_append_left hlt, ih]

/-- Each further word is computed from all the words of the schedule before it. -/
theorem getElem?_growWords_iterate_of_le {n : Nat} {before : List α} {t : Nat} (hlow : before.length ≤ t)
    (hhigh : t < before.length + n) :
    ((growWords next)^[n] before).reverse[t]? =
      some (next (((growWords next)^[n] before).reverse.take t).reverse) := by
  induction n with
  | zero => omega
  | succ n ih =>
    have hlen : ((growWords next)^[n] before).reverse.length = before.length + n := by
      rw [List.length_reverse, length_growWords_iterate]
    rw [Function.iterate_succ_apply', growWords, List.reverse_cons]
    obtain hlt | rfl : t < before.length + n ∨ t = before.length + n := by omega
    · rw [List.getElem?_append_left (by omega), List.take_append_of_le_length (by omega), ih hlt]
    · rw [← hlen, List.getElem?_concat_length, List.take_left, List.reverse_reverse]

end

theorem getD_reverse_take {α : Type} (w : List α) (d : α) {t j : Nat} (hj : j < t) (ht : t ≤ w.length) :
    (w.take t).reverse.getD j d = w.getD (t - (j + 1)) d := by
  have hlt : t - (j + 1) < w.length := by omega
  have hpos : t - 1 - j = t - (j + 1) := by omega
  simp [List.getD_eq_getElem?_getD, hj, ht, hpos, hlt]

/-! ### The rotating window -/

/-- Of the words before `t`, and of the first sixteen, the window holds those that are no more than sixteen back: word
`j` at index `j` mod 16 (R165, R195). -/
def windowHolds {n : Nat} (w : List (BitVec n)) (t : Nat) (win : Vector (BitVec n) 16) : Prop :=
  ∀ j, t ≤ j + 16 → j < max t 16 → win.getD (j % 16) 0 = w.getD j 0

theorem vector_getD_of_lt {α : Type} {n i : Nat} (v : Vector α n) (d : α) (h : i < n) : v.getD i d = v[i] := by
  simp [Vector.getD, h]

/-- Word `t` overwrites word `t - 16`, which no later round reads. -/
theorem windowHolds.setIfInBounds {n : Nat} {w : List (BitVec n)} {t : Nat} {win : Vector (BitVec n) 16}
    (h : windowHolds w t win) : windowHolds w (t + 1) (win.setIfInBounds (t % 16) (w.getD t 0)) := by
  intro j hlow hhigh
  have hj : j % 16 < 16 := Nat.mod_lt _ (by decide)
  rw [vector_getD_of_lt _ _ hj, Vector.getElem_setIfInBounds]
  split_ifs with heq
  · obtain rfl : j = t := by omega
    rfl
  · rw [← vector_getD_of_lt win 0 hj, h j (by omega) (by omega)]

end Sys2Proof.Machine
end

section
/-! The SHA-256 engine (R160 to R168): its schedule and the window mode of its compression, what its three commands
leave, and that in sequence they compute the one-shot digest of the whole message. -/

namespace Sys2Proof.Machine

/-! ### The schedule (R163) -/

theorem be32_toNat (b0 b1 b2 b3 : Byte) :
    (be32 b0 b1 b2 b3).toNat =
      256 ^ 3 * b0.toNat + 256 ^ 2 * b1.toNat + 256 * b2.toNat + b3.toNat := by
  rw [be32, toNat_append_byte, toNat_append_byte, toNat_append_byte]
  omega

theorem sha256Extend_eq_iterate (n : Nat) (before : List Word) :
    sha256Extend n before = (growWords sha256NextWord)^[n] before := by
  induction n generalizing before with
  | zero => rfl
  | succ n ih => exact ih (growWords sha256NextWord before)

section
variable (block : Vector Byte 64)

theorem sha256Schedule_eq_growWords :
    sha256Schedule block = ((growWords sha256NextWord)^[48] (sha256Words block).toList.reverse).reverse := by
  rw [sha256Schedule, sha256Extend_eq_iterate]

theorem sha256Schedule_length : (sha256Schedule block).length = 64 := by
  rw [sha256Schedule_eq_growWords, List.length_reverse, length_growWords_iterate, List.length_reverse,
    Vector.length_toList]

theorem sha256Schedule_getD_of_lt {t : Nat} (ht : t < 16) :
    (sha256Schedule block).getD t 0 = (sha256Words block).getD t 0 := by
  rw [sha256Schedule_eq_growWords, List.getD_eq_getElem?_getD,
    getElem?_growWords_iterate_of_lt _ _ _ (by simpa using ht), vector_getD_of_lt _ _ ht]
  simp [ht]

theorem sha256Words_getD_toNat {t : Nat} (ht : t < 16) :
    ((sha256Words block).getD t 0).toNat =
      256 ^ 3 * (block.getD (4 * t) 0).toNat + 256 ^ 2 * (block.getD (4 * t + 1) 0).toNat +
        256 * (block.getD (4 * t + 2) 0).toNat + (block.getD (4 * t + 3) 0).toNat := by
  simp (disch := omega) only [vector_getD_of_lt, sha256Words, Vector.getElem_ofFn, be32_toNat]

theorem sha256NextWord_reverse_take (w : List Word) {t : Nat} (hlow : 16 ≤ t) (hhigh : t ≤ w.length) :
    sha256NextWord (w.take t).reverse =
      sha256SmallSigma1 (w.getD (t - 2) 0) + w.getD (t - 7) 0 + sha256SmallSigma0 (w.getD (t - 15) 0) +
        w.getD (t - 16) 0 := by
  have hword (j : Nat) (hj : j < 16) : (w.take t).reverse.getD j 0 = w.getD (t - (j + 1)) 0 :=
    getD_reverse_take w 0 (by omega) hhigh
  rw [sha256NextWord, hword 1 (by decide), hword 6 (by decide), hword 14 (by decide), hword 15 (by decide)]

theorem sha256Schedule_getD_of_le {t : Nat} (hlow : 16 ≤ t) (hhigh : t < 64) :
    (sha256Schedule block).getD t 0 =
      sha256SmallSigma1 ((sha256Schedule block).getD (t - 2) 0) + (sha256Schedule block).getD (t - 7) 0 +
        sha256SmallSigma0 ((sha256Schedule block).getD (t - 15) 0) + (sha256Schedule block).getD (t - 16) 0 := by
  have hgrown : (sha256Schedule block)[t]? = some (sha256NextWord ((sha256Schedule block).take t).reverse) := by
    rw [sha256Schedule_eq_growWords]
    exact getElem?_growWords_iterate_of_le _ (by simpa using hlow) (by simpa using hhigh)
  rw [← sha256NextWord_reverse_take _ hlow (by rw [sha256Schedule_length]; omega), List.getD_eq_getElem?_getD, hgrown,
    Option.getD_some]

end

/-- Settles O29: the schedule is the block's words, grown by one word at a time. -/
theorem sha256ScheduleRecurrence : Obligations.Sha256ScheduleRecurrence := fun block =>
  ⟨sha256Schedule_length block,
    fun _ ht => (congrArg _ (sha256Schedule_getD_of_lt block ht)).trans (sha256Words_getD_toNat block ht),
    fun _ => sha256Schedule_getD_of_le block⟩

/-! ### Window mode (R165) -/

/-- The word of round `t` from the window. -/
def sha256WindowWord (win : Vector Word 16) (t : Nat) : Word :=
  if t < 16 then win.getD (t % 16) 0 else
    sha256SmallSigma1 (win.getD ((t - 2) % 16) 0) + win.getD ((t - 7) % 16) 0 +
      sha256SmallSigma0 (win.getD ((t - 15) % 16) 0) + win.getD (t % 16) 0

theorem sha256WindowRounds_succ (n t : Nat) (win : Vector Word 16) (w : ShaWork 32) :
    sha256WindowRounds (n + 1) t win w =
      sha256WindowRounds n (t + 1) (win.setIfInBounds (t % 16) (sha256WindowWord win t))
        (sha256Round w (sha256K.getD t 0, sha256WindowWord win t)) := rfl

theorem windowHolds_sha256Words (block : Vector Byte 64) :
    windowHolds (sha256Schedule block) 0 (sha256Words block) := by
  intro j _ hj
  have hj' : j < 16 := hj
  rw [Nat.mod_eq_of_lt hj', sha256Schedule_getD_of_lt block hj']

theorem windowHolds.sha256WindowWord_eq {block : Vector Byte 64} {t : Nat} {win : Vector Word 16}
    (h : windowHolds (sha256Schedule block) t win) (ht : t < 64) :
    sha256WindowWord win t = (sha256Schedule block).getD t 0 := by
  rw [sha256WindowWord]
  split_ifs with hlow
  · exact h t (by omega) (by omega)
  · have hoverwritten : t % 16 = (t - 16) % 16 := by omega
    rw [sha256Schedule_getD_of_le block (by omega) ht, hoverwritten, h (t - 2) (by omega) (by omega),
      h (t - 7) (by omega) (by omega), h (t - 15) (by omega) (by omega), h (t - 16) (by omega) (by omega)]

theorem sha256K_length : sha256K.length = 64 := by decide

theorem drop_zip_sha256Schedule (block : Vector Byte 64) {t : Nat} (ht : t < 64) :
    (sha256K.zip (sha256Schedule block)).drop t =
      (sha256K.getD t 0, (sha256Schedule block).getD t 0) :: (sha256K.zip (sha256Schedule block)).drop (t + 1) := by
  have hK : t < sha256K.length := by rwa [sha256K_length]
  have hW : t < (sha256Schedule block).length := by rwa [sha256Schedule_length]
  rw [List.drop_eq_getElem_cons (by rw [List.length_zip]; omega), List.getElem_zip, List.getD_eq_getElem _ _ hK,
    List.getD_eq_getElem _ _ hW]

/-- From any round on, the rounds over the window are those over the rest of the full schedule. -/
theorem windowHolds.sha256WindowRounds_eq {block : Vector Byte 64} {n t : Nat} {win : Vector Word 16}
    (h : windowHolds (sha256Schedule block) t win) (ht : t + n = 64) (w : ShaWork 32) :
    sha256WindowRounds n t win w = ((sha256K.zip (sha256Schedule block)).drop t).foldl sha256Round w := by
  induction n generalizing t win w with
  | zero =>
    rw [List.drop_of_length_le (by rw [List.length_zip, sha256K_length]; omega)]
    rfl
  | succ n ih =>
    rw [sha256WindowRounds_succ, h.sha256WindowWord_eq (by omega), ih h.setIfInBounds (by omega),
      drop_zip_sha256Schedule block (t := t) (by omega), List.foldl_cons]

/-- Settles O31: the window starts as the words of the block and then follows the schedule. -/
theorem sha256WindowModeEquivalent : Obligations.Sha256WindowModeEquivalent := by
  intro h block
  rw [sha256WindowCompress, (windowHolds_sha256Words block).sha256WindowRounds_eq rfl, List.drop_zero]
  rfl

/-! ### SHA256_INIT -/

/-- Settles O13: the frames are the encodings of the two forms but for words they do not use, and the context is the
one of R166. -/
theorem sha256InitResult : Obligations.Sha256InitResult :=
  ⟨fun _ _ _ => ⟨decode_of_encode_eq_usedWords rfl rfl, decode_of_encode_eq_usedWords rfl rfl⟩, fun v s =>
    (execSha256Init_next v s _).mpr (by cases v <;> rfl)⟩

/-! ### SHA256_DATAADD -/

/-- Settles O16: the loop runs once. -/
theorem sha256DataAddOneByte : Obligations.Sha256DataAddOneByte := by
  intro s data hphase hvalid
  have htotal : s.s256.total + 1 = BitVec.ofNat 32 (s.s256.total.toNat + 1) := by bv_omega
  refine (execSha256DataAdd_next data 1 s _).mpr ⟨hphase, hvalid, ?_⟩
  rw [← htotal, ← hphase]
  rfl

theorem sha256AbsorbByte_total (c : Sha256Context) (b : Byte) : (sha256AbsorbByte c b).total = c.total + 1 := rfl

/-- One step of the counter for each byte (R167). -/
theorem sha256Absorb_total (c : Sha256Context) (bytes : List Byte) :
    (sha256Absorb c bytes).total = c.total + BitVec.ofNat 32 bytes.length := by
  refine foldl_keeps_relation (R := fun c' m => c'.total = c.total + BitVec.ofNat 32 m.length) (c := c) (m := [])
    (fun c' m b h => ?_) (BitVec.add_zero _).symm bytes
  rw [sha256AbsorbByte_total, h, List.length_append, BitVec.ofNat_add, BitVec.add_assoc]
  rfl

/-- Settles O21: the command absorbs the bytes of the buffer, one step of the counter each. -/
theorem sha256DataAddCompletes : Obligations.Sha256DataAddCompletes := by
  intro s data length hphase hvalid
  refine ⟨sha256Absorb s.s256 (s.mem.readBytes data.toNat length.toNat),
    (execSha256DataAdd_next data length s _).mpr ⟨hphase, hvalid, rfl⟩, ?_, ?_, sha256Absorb_variant _ _⟩
  · rw [sha256Absorb_total, Memory.readBytes_length, BitVec.ofNat_toNat, BitVec.setWidth_eq]
  · rw [sha256Absorb_phase, hphase]

/-! ### SHA256_CALC -/

theorem sha256DigestOf_eq_refSha256Emit (v : Sha256Variant) (h : Vector Word 8) :
    sha256DigestOf v h = refSha256Emit v h := by
  have hword : (fun w : Word => beBytes w 4) = fun w => refBig w.toNat 4 := funext fun w => beBytes_eq_refBig w rfl
  rw [sha256DigestOf, refSha256Emit, hword]
  cases v <;> rfl

/-- The 64-bit length field counts the bits of the 32-bit byte counter (R168, D13). -/
theorem sha256LengthField_eq_refSha256Field (total : Word) :
    sha256LengthField total = refSha256Field total.toNat := by
  have hbits : (total.setWidth 64 <<< 3).toNat = 8 * (total.toNat % 2 ^ 32) := by
    rw [BitVec.toNat_shiftLeft, BitVec.toNat_setWidth, Nat.shiftLeft_eq]
    omega
  rw [sha256LengthField, beBytes_eq_refBig (count := 8) _ rfl, hbits, refSha256Field]

theorem sha256Finish_eq_refChain (c : Sha256Context) :
    sha256Finish c =
      refChain sha256Compress c.h
        (refPadded 64 (refSha256Field c.total.toNat) (c.buf.toList.take (c.total.toNat % 64))) := by
  have hfill : sha256Fill c < 64 := Nat.mod_lt _ (by decide)
  rw [sha256Finish, finishHash_eq_refChain sha256Compress _ _ hfill (by simp [sha256LengthField]),
    sha256LengthField_eq_refSha256Field, sha256Fill]

/-- Settles O24: the digest is that of the padded partial block, and what is written is read back. -/
theorem sha256CalcResult : Obligations.Sha256CalcResult := by
  intro s outDigest n hphase hn hvalid
  have hlen : (sha256DigestOf s.s256.variant (sha256Finish s.s256)).length = n := by
    rw [sha256DigestOf_length, sha256DigestBytes_eq, hn]
  rw [← hlen] at hvalid ⊢
  rw [sha256DigestOf_length] at hvalid
  refine ⟨sha256Exhausted s.s256.variant s.freeIndex,
    s.mem.writeBytes outDigest.toNat (sha256DigestOf s.s256.variant (sha256Finish s.s256)),
    (execSha256Calc_next outDigest s _).mpr ⟨hphase, hvalid, rfl⟩, rfl, rfl, ?_,
    fun a => Memory.read_writeBytes_other _ _ _⟩
  rw [Memory.readBytes_writeBytes, sha256DigestOf_eq_refSha256Emit, sha256Finish_eq_refChain]

/-! ### The commands in sequence (R28) -/

theorem sha256Fresh_absorbed (v : Sha256Variant) : sha256Absorbed (sha256Fresh v) [] := ⟨rfl, rfl, rfl, nofun⟩

/-- The counter wraps at a multiple of the block size, so `fill` is that of the message (R28). -/
theorem sha256Absorbed.fill {c : Sha256Context} {m : List Byte} (h : sha256Absorbed c m) :
    sha256Fill c = m.length % 64 := by
  obtain ⟨-, htotal, -⟩ := h
  rw [sha256Fill, htotal, Nat.mod_mod_of_dvd _ (by decide)]

theorem sha256Absorbed.absorbByte {c : Sha256Context} {m : List Byte} (h : sha256Absorbed c m) (b : Byte) :
    sha256Absorbed (sha256AbsorbByte c b) (m ++ [b]) := by
  have hfill := h.fill
  obtain ⟨hphase, htotal, habs⟩ := h
  refine ⟨hphase, ?_, ?_⟩
  · rw [sha256AbsorbByte_total, BitVec.toNat_add, htotal, List.length_append]
    simp
  · rw [sha256AbsorbByte, hfill]
    exact absorbed_absorbByte sha256Compress (by decide) habs b

theorem sha256Absorbed.absorb {c : Sha256Context} {m : List Byte} (h : sha256Absorbed c m) (bytes : List Byte) :
    sha256Absorbed (sha256Absorb c bytes) (m ++ bytes) :=
  foldl_keeps_relation (fun _ _ b hc => hc.absorbByte b) h bytes

/-- The digest of a context that has absorbed a message is the one-shot digest of that message. -/
theorem sha256Absorbed.refSha256_eq {c : Sha256Context} {m : List Byte} (h : sha256Absorbed c m) :
    refSha256 c.variant m =
      refSha256Emit c.variant
        (refChain sha256Compress c.h
          (refPadded 64 (refSha256Field c.total.toNat) (c.buf.toList.take (c.total.toNat % 64)))) := by
  have hfill : c.total.toNat % 64 = m.length % 64 := h.fill
  obtain ⟨-, htotal, habs⟩ := h
  have hfield : refSha256Field c.total.toNat = refSha256Field m.length := by
    rw [refSha256Field, htotal, Nat.mod_mod, refSha256Field]
  rw [hfill, hfield, refSha256, habs.refChain_refPadded sha256Compress (by decide)]

/-- Settles O27: each command is a step of the relation `sha256Absorbed` between contexts and messages. -/
theorem sha256StreamingIsOneShot : Obligations.Sha256StreamingIsOneShot := by
  refine ⟨fun s v => ⟨_, (execSha256Init_next v s _).mpr rfl, rfl, sha256Fresh_absorbed v⟩,
    fun s m data length habs hvalid => ?_, fun s m outDigest n habs hn hvalid => ?_⟩
  · exact ⟨_, (execSha256DataAdd_next data length s _).mpr ⟨habs.1, hvalid, rfl⟩, sha256Absorb_variant _ _,
      habs.absorb _⟩
  · obtain ⟨_, _, hexec, -, -, hdigest, -⟩ := sha256CalcResult s outDigest n habs.1 hn hvalid
    exact ⟨_, hexec, hdigest.trans habs.refSha256_eq.symm⟩

end Sys2Proof.Machine
end

section
/-! The SHA-512 engine (R190 to R199): its schedule and the window mode of its compression, what its three commands
leave, and that in sequence they compute the one-shot digest of the whole message for every width of the counter. -/

namespace Sys2Proof.Machine

/-! ### The schedule (R193) -/

theorem be64_toNat (b0 b1 b2 b3 b4 b5 b6 b7 : Byte) :
    (be64 b0 b1 b2 b3 b4 b5 b6 b7).toNat =
      256 ^ 7 * b0.toNat + 256 ^ 6 * b1.toNat + 256 ^ 5 * b2.toNat + 256 ^ 4 * b3.toNat + 256 ^ 3 * b4.toNat +
        256 ^ 2 * b5.toNat + 256 * b6.toNat + b7.toNat := by
  simp only [be64, toNat_append_byte]
  omega

theorem sha512Extend_eq_iterate (n : Nat) (before : List DWord) :
    sha512Extend n before = (growWords sha512NextWord)^[n] before := by
  induction n generalizing before with
  | zero => rfl
  | succ n ih => exact ih (growWords sha512NextWord before)

section
variable (block : Vector Byte 128)

theorem sha512Schedule_eq_growWords :
    sha512Schedule block = ((growWords sha512NextWord)^[64] (sha512Words block).toList.reverse).reverse := by
  rw [sha512Schedule, sha512Extend_eq_iterate]

theorem sha512Schedule_length : (sha512Schedule block).length = 80 := by
  rw [sha512Schedule_eq_growWords, List.length_reverse, length_growWords_iterate, List.length_reverse,
    Vector.length_toList]

theorem sha512Schedule_getD_of_lt {t : Nat} (ht : t < 16) :
    (sha512Schedule block).getD t 0 = (sha512Words block).getD t 0 := by
  rw [sha512Schedule_eq_growWords, List.getD_eq_getElem?_getD,
    getElem?_growWords_iterate_of_lt _ _ _ (by simpa using ht), vector_getD_of_lt _ _ ht]
  simp [ht]

theorem sha512Words_getD_toNat {t : Nat} (ht : t < 16) :
    ((sha512Words block).getD t 0).toNat =
      256 ^ 7 * (block.getD (8 * t) 0).toNat + 256 ^ 6 * (block.getD (8 * t + 1) 0).toNat +
        256 ^ 5 * (block.getD (8 * t + 2) 0).toNat + 256 ^ 4 * (block.getD (8 * t + 3) 0).toNat +
        256 ^ 3 * (block.getD (8 * t + 4) 0).toNat + 256 ^ 2 * (block.getD (8 * t + 5) 0).toNat +
        256 * (block.getD (8 * t + 6) 0).toNat + (block.getD (8 * t + 7) 0).toNat := by
  simp (disch := omega) only [vector_getD_of_lt, sha512Words, Vector.getElem_ofFn, be64_toNat]

theorem sha512NextWord_reverse_take (w : List DWord) {t : Nat} (hlow : 16 ≤ t) (hhigh : t ≤ w.length) :
    sha512NextWord (w.take t).reverse =
      sha512SmallSigma1 (w.getD (t - 2) 0) + w.getD (t - 7) 0 + sha512SmallSigma0 (w.getD (t - 15) 0) +
        w.getD (t - 16) 0 := by
  have hword (j : Nat) (hj : j < 16) : (w.take t).reverse.getD j 0 = w.getD (t - (j + 1)) 0 :=
    getD_reverse_take w 0 (by omega) hhigh
  rw [sha512NextWord, hword 1 (by decide), hword 6 (by decide), hword 14 (by decide), hword 15 (by decide)]

theorem sha512Schedule_getD_of_le {t : Nat} (hlow : 16 ≤ t) (hhigh : t < 80) :
    (sha512Schedule block).getD t 0 =
      sha512SmallSigma1 ((sha512Schedule block).getD (t - 2) 0) + (sha512Schedule block).getD (t - 7) 0 +
        sha512SmallSigma0 ((sha512Schedule block).getD (t - 15) 0) + (sha512Schedule block).getD (t - 16) 0 := by
  have hgrown : (sha512Schedule block)[t]? = some (sha512NextWord ((sha512Schedule block).take t).reverse) := by
    rw [sha512Schedule_eq_growWords]
    exact getElem?_growWords_iterate_of_le _ (by simpa using hlow) (by simpa using hhigh)
  rw [← sha512NextWord_reverse_take _ hlow (by rw [sha512Schedule_length]; omega), List.getD_eq_getElem?_getD, hgrown,
    Option.getD_some]

end

/-- Settles O30: the schedule is the block's words, grown by one word at a time. -/
theorem sha512ScheduleRecurrence : Obligations.Sha512ScheduleRecurrence := fun block =>
  ⟨sha512Schedule_length block,
    fun _ ht => (congrArg _ (sha512Schedule_getD_of_lt block ht)).trans (sha512Words_getD_toNat block ht),
    fun _ => sha512Schedule_getD_of_le block⟩

/-! ### Window mode (R195) -/

/-- The word of round `t` from the window. -/
def sha512WindowWord (win : Vector DWord 16) (t : Nat) : DWord :=
  if t < 16 then win.getD (t % 16) 0 else
    sha512SmallSigma1 (win.getD ((t - 2) % 16) 0) + win.getD ((t - 7) % 16) 0 +
      sha512SmallSigma0 (win.getD ((t - 15) % 16) 0) + win.getD (t % 16) 0

theorem sha512WindowRounds_succ (n t : Nat) (win : Vector DWord 16) (w : ShaWork 64) :
    sha512WindowRounds (n + 1) t win w =
      sha512WindowRounds n (t + 1) (win.setIfInBounds (t % 16) (sha512WindowWord win t))
        (sha512Round w (sha512K.getD t 0, sha512WindowWord win t)) := rfl

theorem windowHolds_sha512Words (block : Vector Byte 128) :
    windowHolds (sha512Schedule block) 0 (sha512Words block) := by
  intro j _ hj
  have hj' : j < 16 := hj
  rw [Nat.mod_eq_of_lt hj', sha512Schedule_getD_of_lt block hj']

theorem windowHolds.sha512WindowWord_eq {block : Vector Byte 128} {t : Nat} {win : Vector DWord 16}
    (h : windowHolds (sha512Schedule block) t win) (ht : t < 80) :
    sha512WindowWord win t = (sha512Schedule block).getD t 0 := by
  rw [sha512WindowWord]
  split_ifs with hlow
  · exact h t (by omega) (by omega)
  · have hoverwritten : t % 16 = (t - 16) % 16 := by omega
    rw [sha512Schedule_getD_of_le block (by omega) ht, hoverwritten, h (t - 2) (by omega) (by omega),
      h (t - 7) (by omega) (by omega), h (t - 15) (by omega) (by omega), h (t - 16) (by omega) (by omega)]

theorem sha512K_length : sha512K.length = 80 := by decide

theorem drop_zip_eq_getD_cons {α β : Type} {k : List α} {w : List β} {t : Nat} (hk : t < k.length)
    (hw : t < w.length) (d : α) (e : β) :
    (k.zip w).drop t = (k.getD t d, w.getD t e) :: (k.zip w).drop (t + 1) := by
  have ht : t < (k.zip w).length := by rw [List.length_zip]; omega
  rw [List.drop_eq_getElem_cons ht, List.getElem_zip, List.getD_eq_getElem _ _ hk, List.getD_eq_getElem _ _ hw]

/-- From any round on, the rounds over the window are those over the rest of the full schedule. -/
theorem windowHolds.sha512WindowRounds_eq {block : Vector Byte 128} {n t : Nat} {win : Vector DWord 16}
    (h : windowHolds (sha512Schedule block) t win) (ht : t + n = 80) (w : ShaWork 64) :
    sha512WindowRounds n t win w = ((sha512K.zip (sha512Schedule block)).drop t).foldl sha512Round w := by
  induction n generalizing t win w with
  | zero =>
    rw [List.drop_of_length_le (by rw [List.length_zip, sha512K_length]; omega)]
    rfl
  | succ n ih =>
    have hK : t < sha512K.length := by rw [sha512K_length]; omega
    have hW : t < (sha512Schedule block).length := by rw [sha512Schedule_length]; omega
    rw [sha512WindowRounds_succ, h.sha512WindowWord_eq (by omega), ih h.setIfInBounds (by omega),
      drop_zip_eq_getD_cons hK hW 0 0, List.foldl_cons]

/-- Settles O32: the window starts as the words of the block and then follows the schedule. -/
theorem sha512WindowModeEquivalent : Obligations.Sha512WindowModeEquivalent := by
  intro h block
  rw [sha512WindowCompress, (windowHolds_sha512Words block).sha512WindowRounds_eq rfl, List.drop_zero]
  rfl

/-! ### The counter (R197) -/

/-- The carrier's own wrap at 2^128 does not show, whether the counter is narrower or wider than the carrier. -/
theorem truncCounter_add_one (bits : Nat) (total : BitVec 128) :
    truncCounter bits (total + 1) = BitVec.ofNat 128 ((total.toNat + 1) % 2 ^ bits) := by
  have hstep : (total + 1).toNat = (total.toNat + 1) % 2 ^ 128 := BitVec.toNat_add total 1
  apply BitVec.eq_of_toNat_eq
  rw [truncCounter, BitVec.toNat_setWidth, BitVec.toNat_setWidth, BitVec.toNat_ofNat, hstep]
  obtain hle | hle := Nat.le_total bits 128
  · rw [Nat.mod_mod_of_dvd _ (Nat.pow_dvd_pow 2 hle)]
  · rw [Nat.mod_mod_of_dvd _ (Nat.pow_dvd_pow 2 hle), Nat.mod_mod_of_dvd _ (Nat.pow_dvd_pow 2 hle), Nat.mod_mod]

theorem sha512AbsorbByte_total_toNat {bits : Nat} (hbits : bits ≤ 128) (c : Sha512Context) (b : Byte) :
    (sha512AbsorbByte bits c b).total.toNat = (c.total.toNat + 1) % 2 ^ bits := by
  rw [sha512AbsorbByte, truncCounter_toNat hbits, BitVec.toNat_add, Nat.mod_mod_of_dvd _ (Nat.pow_dvd_pow 2 hbits)]
  rfl

/-- One step of the counter for each byte. -/
theorem sha512Absorb_total_toNat {bits : Nat} (hbits : bits ≤ 128) {c : Sha512Context}
    (hc : c.total.toNat < 2 ^ bits) (bytes : List Byte) :
    (sha512Absorb bits c bytes).total.toNat = (c.total.toNat + bytes.length) % 2 ^ bits := by
  refine foldl_keeps_relation (R := fun c' m => c'.total.toNat = (c.total.toNat + m.length) % 2 ^ bits) (c := c)
    (m := []) (fun c' m b h => ?_) (Nat.mod_eq_of_lt hc).symm bytes
  rw [sha512AbsorbByte_total_toNat hbits, h, Nat.mod_add_mod, List.length_append, Nat.add_assoc]
  rfl

/-! ### SHA512_INIT -/

/-- Settles O14: the frames are the encodings of the two forms but for words they do not use, and the context is the
one of R196. -/
theorem sha512InitResult : Obligations.Sha512InitResult :=
  ⟨fun _ _ _ => ⟨decode_of_encode_eq_usedWords rfl rfl, decode_of_encode_eq_usedWords rfl rfl⟩, fun v s =>
    (execSha512Init_next v s _).mpr (by cases v <;> rfl)⟩

/-! ### SHA512_DATAADD -/

/-- Settles O17: the loop runs once. -/
theorem sha512DataAddOneByte : Obligations.Sha512DataAddOneByte := by
  intro s data hphase hvalid
  refine (execSha512DataAdd_next data 1 s _).mpr ⟨hphase, hvalid, ?_⟩
  rw [← truncCounter_add_one, ← hphase]
  rfl

/-- Settles O22: the command absorbs the bytes of the buffer, one step of the counter each. -/
theorem sha512DataAddCompletes : Obligations.Sha512DataAddCompletes := by
  intro s data length hphase hvalid
  refine ⟨sha512Absorb s.platform.sha512CounterBits s.s512 (s.mem.readBytes data.toNat length.toNat),
    (execSha512DataAdd_next data length s _).mpr ⟨hphase, hvalid, rfl⟩, ?_, sha512Absorb_variant _ _ _,
    fun hbits htotal => ?_⟩
  · rw [sha512Absorb_phase, hphase]
  · rw [sha512Absorb_total_toNat hbits htotal, Memory.readBytes_length]

/-! ### SHA512_CALC -/

theorem sha512DigestOf_eq_refSha512Emit (v : Sha512Variant) (h : Vector DWord 8) :
    sha512DigestOf v h = refSha512Emit v h := by
  have hword : (fun w : DWord => beBytes w 8) = fun w => refBig w.toNat 8 := funext fun w => beBytes_eq_refBig w rfl
  rw [sha512DigestOf, refSha512Emit, hword]
  cases v <;> rfl

theorem refByte_mod {count k : Nat} (v : Nat) (hk : k < count) : refByte (v % 256 ^ count) k = refByte v k := by
  have hsplit : 256 ^ count = 256 ^ k * 256 ^ (count - k) := by rw [← Nat.pow_add, Nat.add_sub_cancel' hk.le]
  have hbyte : 2 ^ 8 ∣ 256 ^ (count - k) := dvd_pow_self 256 (by omega)
  apply BitVec.eq_of_toNat_eq
  rw [refByte, refByte, BitVec.toNat_ofNat, BitVec.toNat_ofNat, hsplit, Nat.mod_mul_right_div_self,
    Nat.mod_mod_of_dvd _ hbyte]

/-- The bytes of a number do not depend on what lies above them. -/
theorem refBig_mod (v count : Nat) : refBig (v % 256 ^ count) count = refBig v count :=
  List.map_congr_left fun k hk => refByte_mod v (by rw [List.mem_range] at hk; omega)

/-- The 128-bit length field counts the bits of the whole counter, but for those that the shift moves out (R198). -/
theorem sha512LengthField_eq_refBig (total : BitVec 128) :
    sha512LengthField total = refBig (8 * total.toNat) 16 := by
  have hbits : (total <<< 3).toNat = 8 * total.toNat % 256 ^ 16 := by
    rw [BitVec.toNat_shiftLeft, Nat.shiftLeft_eq]
    omega
  rw [sha512LengthField, beBytes_eq_refBig (count := 16) _ rfl, hbits, refBig_mod]

theorem sha512Finish_eq_refChain (c : Sha512Context) :
    sha512Finish c =
      refChain sha512Compress c.h
        (refPadded 128 (refBig (8 * c.total.toNat) 16) (c.buf.toList.take (c.total.toNat % 128))) := by
  have hfill : sha512Fill c < 128 := Nat.mod_lt _ (by decide)
  rw [sha512Finish, finishHash_eq_refChain sha512Compress _ _ hfill (by simp [sha512LengthField]),
    sha512LengthField_eq_refBig, sha512Fill]

/-- Settles O25: the digest is that of the padded partial block, and what is written is read back. -/
theorem sha512CalcResult : Obligations.Sha512CalcResult := by
  intro s outDigest n hphase hn hvalid
  have hlen : (sha512DigestOf s.s512.variant (sha512Finish s.s512)).length = n := by
    rw [sha512DigestOf_length, sha512DigestBytes_eq, hn]
  rw [← hlen] at hvalid ⊢
  rw [sha512DigestOf_length] at hvalid
  refine ⟨sha512Exhausted s.platform.sha512CounterBits s.s512.variant s.freeIndex,
    s.mem.writeBytes outDigest.toNat (sha512DigestOf s.s512.variant (sha512Finish s.s512)),
    (execSha512Calc_next outDigest s _).mpr ⟨hphase, hvalid, rfl⟩, rfl, rfl, ?_,
    fun a => Memory.read_writeBytes_other _ _ _⟩
  rw [Memory.readBytes_writeBytes, sha512DigestOf_eq_refSha512Emit, sha512Finish_eq_refChain]

/-! ### The commands in sequence (R28) -/

theorem sha512Fresh_absorbed (bits : Nat) (v : Sha512Variant) : sha512Absorbed bits (sha512Fresh v) [] :=
  ⟨rfl, (Nat.zero_mod _).symm, rfl, nofun⟩

section
variable {bits : Nat} {c : Sha512Context} {m : List Byte} (h : sha512Absorbed bits c m)
include h

/-- A counter of at least 7 bits wraps at a multiple of the block size, so `fill` is that of the message (R28, D12). -/
theorem sha512Absorbed.fill (hlow : 7 ≤ bits) : sha512Fill c = m.length % 128 := by
  obtain ⟨-, htotal, -⟩ := h
  rw [sha512Fill, htotal, Nat.mod_mod_of_dvd _ (Nat.pow_dvd_pow 2 hlow)]

theorem sha512Absorbed.absorbByte (hlow : 7 ≤ bits) (hhigh : bits ≤ 128) (b : Byte) :
    sha512Absorbed bits (sha512AbsorbByte bits c b) (m ++ [b]) := by
  have hfill := h.fill hlow
  obtain ⟨hphase, htotal, habs⟩ := h
  refine ⟨hphase, ?_, ?_⟩
  · rw [sha512AbsorbByte_total_toNat hhigh, htotal, Nat.mod_add_mod, List.length_append]
    rfl
  · rw [sha512AbsorbByte, hfill]
    exact absorbed_absorbByte sha512Compress (by decide) habs b

theorem sha512Absorbed.absorb (hlow : 7 ≤ bits) (hhigh : bits ≤ 128) (bytes : List Byte) :
    sha512Absorbed bits (sha512Absorb bits c bytes) (m ++ bytes) :=
  foldl_keeps_relation (fun _ _ b hc => hc.absorbByte hlow hhigh b) h bytes

/-- The digest of a context that has absorbed a message is the one-shot digest of that message. -/
theorem sha512Absorbed.refSha512_eq (hlow : 7 ≤ bits) :
    refSha512 bits c.variant m =
      refSha512Emit c.variant
        (refChain sha512Compress c.h
          (refPadded 128 (refBig (8 * c.total.toNat) 16) (c.buf.toList.take (c.total.toNat % 128)))) := by
  have hfill : c.total.toNat % 128 = m.length % 128 := h.fill hlow
  obtain ⟨-, htotal, habs⟩ := h
  rw [hfill, htotal, refSha512, refSha512Field, habs.refChain_refPadded sha512Compress (by decide)]

end

/-- Settles O28: each command is a step of the relation `sha512Absorbed` between contexts and messages. -/
theorem sha512StreamingIsOneShot : Obligations.Sha512StreamingIsOneShot := by
  refine ⟨fun s v => ⟨_, (execSha512Init_next v s _).mpr rfl, rfl, sha512Fresh_absorbed _ v⟩,
    fun s m data length hlow hhigh habs hvalid => ?_, fun s m outDigest n hlow _ habs hn hvalid => ?_⟩
  · exact ⟨_, (execSha512DataAdd_next data length s _).mpr ⟨habs.1, hvalid, rfl⟩, sha512Absorb_variant _ _ _,
      habs.absorb hlow hhigh _⟩
  · obtain ⟨_, _, hexec, -, -, hdigest, -⟩ := sha512CalcResult s outDigest n habs.1 hn hvalid
    exact ⟨_, hexec, hdigest.trans (habs.refSha512_eq hlow).symm⟩

end Sys2Proof.Machine
end

section
/-! The quarter-rounds of ChaCha20 (R221, R222): quarter-rounds on disjoint quadruples of words commute, so the order of
the four column rounds, and of the four diagonal rounds, is immaterial. -/

namespace Sys2Proof.Machine

/-- The four indices of a quadruple. -/
def quadIndices (q : Fin 16 × Fin 16 × Fin 16 × Fin 16) : List (Fin 16) := [q.1, q.2.1, q.2.2.1, q.2.2.2]

/-- A quarter-round changes no word outside its quadruple. -/
theorem refQuarter_getElem_other (x : Vector Word 16) {q : Fin 16 × Fin 16 × Fin 16 × Fin 16} {j : Fin 16}
    (hj : j ∉ quadIndices q) : (refQuarter x q)[j] = x[j] := by
  obtain ⟨a, b, c, d⟩ := q
  simp only [quadIndices, List.mem_cons, List.not_mem_nil, or_false, not_or] at hj
  obtain ⟨ha, hb, hc, hd⟩ := hj
  have differs {i : Fin 16} (h : ¬j = i) : i.val ≠ j.val := Fin.val_ne_of_ne (Ne.symm h)
  simp only [refQuarter, chachaQuarterRound, Fin.getElem_fin]
  rw [Vector.getElem_set_ne _ _ (differs hd), Vector.getElem_set_ne _ _ (differs hc),
    Vector.getElem_set_ne _ _ (differs hb), Vector.getElem_set_ne _ _ (differs ha)]

/-- What a quarter-round leaves at an index depends on that word and on the words of its quadruple only. -/
theorem refQuarter_getElem_congr {x y : Vector Word 16} {q : Fin 16 × Fin 16 × Fin 16 × Fin 16} {j : Fin 16}
    (hq : ∀ i ∈ quadIndices q, x[i] = y[i]) (hj : x[j] = y[j]) : (refQuarter x q)[j] = (refQuarter y q)[j] := by
  obtain ⟨a, b, c, d⟩ := q
  obtain ⟨ha, hb, hc, hd⟩ : x[a] = y[a] ∧ x[b] = y[b] ∧ x[c] = y[c] ∧ x[d] = y[d] := by
    simpa [quadIndices] using hq
  simp only [refQuarter, chachaQuarterRound, ha, hb, hc, hd]
  simp only [Fin.getElem_fin, Vector.getElem_set] at hj ⊢
  rw [hj]

/-- Quarter-rounds on disjoint quadruples commute. -/
theorem refQuarter_comm (x : Vector Word 16) {p q : Fin 16 × Fin 16 × Fin 16 × Fin 16}
    (h : (quadIndices p).Disjoint (quadIndices q)) :
    refQuarter (refQuarter x p) q = refQuarter (refQuarter x q) p := by
  have word (j : Fin 16) : (refQuarter (refQuarter x p) q)[j] = (refQuarter (refQuarter x q) p)[j] := by
    by_cases hj : j ∈ quadIndices p
    · rw [refQuarter_getElem_other _ (h hj)]
      exact (refQuarter_getElem_congr (fun i hi => refQuarter_getElem_other x (h hi))
        (refQuarter_getElem_other x (h hj))).symm
    · rw [refQuarter_getElem_other (refQuarter x q) hj]
      exact refQuarter_getElem_congr (fun i hi => refQuarter_getElem_other x (h.symm hi))
        (refQuarter_getElem_other x hj)
  exact Vector.ext fun j hj => word ⟨j, hj⟩

/-- Quarter-rounds on quadruples of which any two are disjoint may be done in any order. -/
theorem foldl_refQuarter_of_perm {l r : List (Fin 16 × Fin 16 × Fin 16 × Fin 16)} (hperm : l.Perm r)
    (hdisjoint : ∀ p ∈ r, ∀ q ∈ r, p ≠ q → (quadIndices p).Disjoint (quadIndices q)) (x : Vector Word 16) :
    l.foldl refQuarter x = r.foldl refQuarter x := by
  refine hperm.foldl_eq' (fun p hp q hq z => ?_) x
  by_cases hpq : p = q
  · rw [hpq]
  · exact refQuarter_comm z (hdisjoint p (hperm.subset hp) q (hperm.subset hq) hpq)

/-- Settles O42: no two of the four column quadruples share an index, nor do any two of the four diagonal ones. -/
theorem quarterRoundOrderImmaterial : Obligations.QuarterRoundOrderImmaterial := by
  refine fun x l => ⟨fun hperm => foldl_refQuarter_of_perm hperm ?_ x,
    fun hperm => foldl_refQuarter_of_perm hperm ?_ x⟩
  · unfold List.Disjoint
    decide
  · unfold List.Disjoint
    decide

end Sys2Proof.Machine
end

section
/-! The block counter (R228) and the 70-bit position in the keystream (R31, R96, R227): the counter is one 64-bit
number, and setting a position makes the counter and the offset of that position. -/

namespace Sys2Proof.Machine

/-! ### The block counter (R228) -/

theorem toNat_append_eq_mul_add {n k : Nat} (w : BitVec n) (v : BitVec k) :
    (w ++ v).toNat = 2 ^ k * w.toNat + v.toNat := by
  rw [BitVec.toNat_append, ← Nat.shiftLeft_add_eq_or_of_lt v.isLt, Nat.shiftLeft_eq, Nat.mul_comm]

theorem chachaCounterIncrement_low (key : Vector Word 16) : (chachaCounterIncrement key)[12] = key[12] + 1 := by
  unfold chachaCounterIncrement
  dsimp only
  split <;> simp

theorem chachaCounterIncrement_high (key : Vector Word 16) :
    (chachaCounterIncrement key)[13] = if key[12] + 1 = 0 then key[13] + 1 else key[13] := by
  unfold chachaCounterIncrement
  simp only [Vector.getElem_set_self]
  split <;> simp

/-- Settles O41: the low word carries into the high one exactly when it wraps to 0. -/
theorem counterIncrementIs64Bit : Obligations.CounterIncrementIs64Bit := by
  refine fun key => ⟨BitVec.eq_of_toNat_eq ?_, chachaCounterIncrement_sameButCounter key⟩
  rw [chachaCounterIncrement_low, chachaCounterIncrement_high, BitVec.toNat_add, toNat_append_eq_mul_add,
    toNat_append_eq_mul_add]
  split <;> bv_omega

/-! ### The position (R31, R227) -/

theorem positionCounterLow_toNat (p : BitVec 70) : (positionCounterLow p).toNat = p.toNat / 64 % 2 ^ 32 := by
  rw [positionCounterLow, BitVec.extractLsb'_toNat, Nat.shiftRight_eq_div_pow]

theorem positionCounterHigh_toNat (p : BitVec 70) : (positionCounterHigh p).toNat = p.toNat / 64 / 2 ^ 32 := by
  rw [positionCounterHigh, BitVec.extractLsb'_toNat, Nat.shiftRight_eq_div_pow]
  omega

theorem positionOffset_toNat (p : BitVec 70) : (positionOffset p).toNat = p.toNat % 64 := by
  rw [positionOffset, BitVec.toNat_setWidth, BitVec.extractLsb'_toNat, Nat.shiftRight_zero]
  omega

theorem streamPosition_toNat (upper6 : Byte) (high32 low32 : Word) :
    (streamPosition upper6 high32 low32).toNat =
      upper6.toNat % 64 * 2 ^ 64 + high32.toNat * 2 ^ 32 + low32.toNat := by
  rw [streamPosition, toNat_append_eq_mul_add, toNat_append_eq_mul_add, BitVec.extractLsb'_toNat, Nat.shiftRight_zero]
  omega

theorem chachaSeek_low (key : Vector Word 16) (p : BitVec 70) : (chachaSeek key p)[12] = positionCounterLow p := by
  simp [chachaSeek]

theorem chachaSeek_high (key : Vector Word 16) (p : BitVec 70) : (chachaSeek key p)[13] = positionCounterHigh p := by
  simp [chachaSeek]

/-- Setting the position forgets the old counter and nothing else. -/
theorem sameButCounter.chachaSeek_eq {key key' : Vector Word 16} (h : sameButCounter key key') (p : BitVec 70) :
    chachaSeek key' p = chachaSeek key p := by
  have word (j : Fin 16) : (chachaSeek key' p)[j] = (chachaSeek key p)[j] := by
    by_cases h12 : j = 12
    · rw [h12]
      exact (chachaSeek_low key' p).trans (chachaSeek_low key p).symm
    by_cases h13 : j = 13
    · rw [h13]
      exact (chachaSeek_high key' p).trans (chachaSeek_high key p).symm
    rw [chachaSeek_sameButCounter key' p j h12 h13, h j h12 h13, chachaSeek_sameButCounter key p j h12 h13]
  exact Vector.ext fun j hj => word ⟨j, hj⟩

theorem chachaSeek_of_counter {key : Vector Word 16} {p : BitVec 70} (hlow : positionCounterLow p = key[12])
    (hhigh : positionCounterHigh p = key[13]) : chachaSeek key p = key := by
  rw [chachaSeek, hlow, hhigh, Vector.set_getElem_self, Vector.set_getElem_self]

/-! ### CHACHA20_POSITIONSET -/

/-- The context after setting the position (R227). -/
def ChachaContext.seek (c : ChachaContext) (p : BitVec 70) : ChachaContext :=
  { c with key := chachaSeek c.key p, ks := chachaBlock (chachaSeek c.key p), off := positionOffset p }

theorem exec_chacha20PositionSet_of_keyed {s : State} (hkeyed : s.cc.keyed = true) (upper6 : Byte)
    (high32 low32 : Word) :
    exec (.chacha20PositionSet upper6 high32 low32) s =
      .next ((s.withCc (s.cc.seek (streamPosition upper6 high32 low32))).withResp 0) :=
  (execChacha20PositionSet_next upper6 high32 low32 s _).mpr ⟨hkeyed, rfl⟩

/-- Settles O35: counter and offset are fields of the position. -/
theorem positionSetResult : Obligations.PositionSetResult := by
  rintro s upper6 high32 low32 position hkeyed rfl
  rw [← streamPosition_toNat]
  refine ⟨s.cc.seek (streamPosition upper6 high32 low32), exec_chacha20PositionSet_of_keyed hkeyed _ _ _, hkeyed,
    positionOffset_toNat _, ?_, ?_, rfl, chachaSeek_sameButCounter s.cc.key _⟩
  · exact (congrArg BitVec.toNat (chachaSeek_low s.cc.key _)).trans (positionCounterLow_toNat _)
  · exact (congrArg BitVec.toNat (chachaSeek_high s.cc.key _)).trans (positionCounterHigh_toNat _)

end Sys2Proof.Machine
end

section
/-! CHACHA20_KEYEXPAND (R220, R225): the words of the matrix as the little-endian words of the key and nonce buffers. -/

namespace Sys2Proof.Machine

theorem le32_toNat (b0 b1 b2 b3 : Byte) :
    (le32 b0 b1 b2 b3).toNat = b0.toNat + 256 * b1.toNat + 256 ^ 2 * b2.toNat + 256 ^ 3 * b3.toNat := by
  rw [le32, toNat_append_byte, toNat_append_byte, toNat_append_byte]
  omega

/-- A word of a buffer is the little-endian value of its four bytes (R63). -/
theorem leWordAt_readBytes_toNat (m : Memory) (a : Nat) {n i : Nat} (h : 4 * i + 3 < n) :
    (leWordAt (m.readBytes a n) i).toNat = refLittleWord m (a + 4 * i) := by
  rw [leWordAt, Memory.getD_readBytes m a (by omega), Memory.getD_readBytes m a (by omega),
    Memory.getD_readBytes m a (by omega), Memory.getD_readBytes m a h, le32_toNat]
  rfl

theorem eq_of_keyLengthValid {keyLength : Byte} (h : keyLengthValid keyLength = true) :
    keyLength = 16 ∨ keyLength = 32 := by
  simpa [keyLengthValid] using h

/-- The constants are tau for a 16-byte key and sigma for a 32-byte key (R220). -/
theorem chachaMatrix_constants {keyLength : Byte} (h : keyLengthValid keyLength = true) (kb nb : List Byte) :
    (chachaMatrix keyLength kb nb)[0] = 0x61707865 ∧
      (chachaMatrix keyLength kb nb)[1] = (if keyLength.toNat = 16 then 0x3120646E else 0x3320646E) ∧
      (chachaMatrix keyLength kb nb)[2] = (if keyLength.toNat = 16 then 0x79622D36 else 0x79622D32) ∧
      (chachaMatrix keyLength kb nb)[3] = 0x6B206574 := by
  obtain rfl | rfl := eq_of_keyLengthValid h
  · exact ⟨rfl, rfl, rfl, rfl⟩
  · exact ⟨rfl, rfl, rfl, rfl⟩

theorem chachaMatrix_firstKeyWords (keyLength : Byte) (kb nb : List Byte) {i : Nat} (hi : i < 4) :
    (chachaMatrix keyLength kb nb).getD (4 + i) 0 = leWordAt kb i := by
  interval_cases i <;> rfl

/-- The second four key words repeat the first for a 16-byte key (R225). -/
theorem chachaMatrix_secondKeyWords {keyLength : Byte} (h : keyLengthValid keyLength = true) (kb nb : List Byte)
    {i : Nat} (hi : i < 4) :
    (chachaMatrix keyLength kb nb).getD (8 + i) 0 = leWordAt kb ((if keyLength.toNat = 32 then 4 else 0) + i) := by
  obtain rfl | rfl := eq_of_keyLengthValid h
  · interval_cases i <;> rfl
  · interval_cases i <;> rfl

theorem exec_chacha20KeyExpand_of_valid {s : State} {nonce key : Word} {keyLength : Byte}
    (hlen : keyLengthValid keyLength = true) (hnonce : BufferValid s.platform nonce nonceBytes)
    (hkey : BufferValid s.platform key keyLength.toNat) :
    exec (.chacha20KeyExpand nonce key keyLength) s =
      .next ((s.withCc (chachaFresh (chachaMatrix keyLength (s.mem.readBytes key.toNat keyLength.toNat)
        (s.mem.readBytes nonce.toNat nonceBytes)))).withResp 0) :=
  (execChacha20KeyExpand_next nonce key keyLength s _).mpr (.inl ⟨hlen, hnonce, hkey, rfl⟩)

/-- Settles O34: the constants are those of the key length, the other words of the matrix are words of the buffers. -/
theorem keyExpandResult : Obligations.KeyExpandResult := by
  intro s nonce key keyLength hlen hnonce hkey
  have hvalid := (keyLengthValid_iff_toNat keyLength).mpr hlen
  refine ⟨_, exec_chacha20KeyExpand_of_valid hvalid hnonce hkey, rfl, rfl, rfl, ?_⟩
  rw [State.withCc_cc, chachaFresh]
  obtain ⟨hc0, hc1, hc2, hc3⟩ := chachaMatrix_constants hvalid (s.mem.readBytes key.toNat keyLength.toNat)
    (s.mem.readBytes nonce.toNat nonceBytes)
  refine ⟨hc0, hc1, hc2, hc3, fun i hi => ?_, fun i hi => ?_, rfl, rfl, leWordAt_readBytes_toNat s.mem _ (by decide),
    leWordAt_readBytes_toNat s.mem _ (by decide)⟩
  · rw [chachaMatrix_firstKeyWords _ _ _ hi, leWordAt_readBytes_toNat s.mem _ (by omega)]
  · rw [chachaMatrix_secondKeyWords hvalid _ _ hi]
    split_ifs
    · rw [leWordAt_readBytes_toNat s.mem _ (by omega), Nat.mul_add, Nat.add_assoc]
    · rw [leWordAt_readBytes_toNat s.mem _ (by omega), Nat.zero_add, Nat.add_zero]

end Sys2Proof.Machine
end

section
/-! CHACHA20_ENCRYPT (R226): what it leaves for valid buffers that are the same or disjoint, byte by byte and over a
split buffer. -/

namespace Sys2Proof.Machine

/-! ### The command on valid buffers -/

/-- The state after a CHACHA20_ENCRYPT that is not refused. -/
def State.afterEncrypt (s : State) (output message n : Nat) : State :=
  ((s.withMem (chachaCrypt output message n s.cc s.mem)).withCc (chachaAdvances n s.cc)).withResp 0

theorem exec_chacha20Encrypt_of_valid {s : State} {output message length : Word} (hkeyed : s.cc.keyed = true)
    (hout : BufferValid s.platform output length.toNat) (hmsg : BufferValid s.platform message length.toNat)
    (hoverlap : refOverlapAllowed output message length.toNat) :
    exec (.chacha20Encrypt output message length) s =
      .next (s.afterEncrypt output.toNat message.toNat length.toNat) :=
  (execChacha20Encrypt_next output message length s _).mpr
    ⟨hkeyed, hout, hmsg, (overlapAllowed_iff_ref output message _).mpr hoverlap, rfl⟩

/-- Settles O36: the loop writes the output buffer only, and in the matrix changes the counter only. -/
theorem encryptCompletesAndFrames : Obligations.EncryptCompletesAndFrames := by
  intro s output message length hkeyed hout hmsg hoverlap
  exact ⟨chachaAdvances length.toNat s.cc, chachaCrypt output.toNat message.toNat length.toNat s.cc s.mem,
    exec_chacha20Encrypt_of_valid hkeyed hout hmsg hoverlap, (chachaAdvances_keyed _ _).trans hkeyed,
    chachaAdvances_sameButCounter _ _, fun _ ha => chachaCrypt_read_other _ _ _ _ _ ha⟩

/-! ### A split buffer (R226 (d)) -/

theorem State.afterEncrypt_add (s : State) (output message n k : Nat) :
    (s.afterEncrypt output message n).afterEncrypt (output + n) (message + n) k =
      s.afterEncrypt output message (n + k) := by
  unfold State.afterEncrypt
  rw [chachaCrypt_add, chachaAdvances_add]
  rfl

theorem refOverlapAllowed_first {output message : Word} {n k : Nat} (h : refOverlapAllowed output message (n + k)) :
    refOverlapAllowed output message n := h.imp_right fun hdisjoint => by omega

theorem refOverlapAllowed_second {pl : Platform} {output message : Word} {n k : Nat} (hk : 0 < k)
    (hout : BufferValid pl output (n + k)) (hmsg : BufferValid pl message (n + k))
    (h : refOverlapAllowed output message (n + k)) :
    refOverlapAllowed (output + BitVec.ofNat 32 n) (message + BitVec.ofNat 32 n) k := by
  unfold refOverlapAllowed at h ⊢
  rw [hout.toNat_add hk, hmsg.toNat_add hk]
  obtain rfl | hdisjoint := h
  · exact .inl rfl
  · exact .inr (by omega)

/-- Settles O38: the loop over n + k bytes is the loop over n bytes and then over k; without a key the one command and
the first of the two are refused alike. -/
theorem encryptSplitsAnywhere : Obligations.EncryptSplitsAnywhere := by
  intro s output message n k hk hout hmsg hoverlap
  cases hkeyed : s.cc.keyed with
  | false =>
    rw [(unkeyedChachaRefused s output message _ 0 hkeyed).1, (unkeyedChachaRefused s output message _ 0 hkeyed).1]
    rfl
  | true =>
    have hlt := hout.length_lt
    have hword (i : Nat) (hi : i ≤ n + k) : (BitVec.ofNat 32 i).toNat = i := by
      rw [BitVec.toNat_ofNat, Nat.mod_eq_of_lt (by omega)]
    have hnk := hword (n + k) le_rfl
    have hn := hword n (Nat.le_add_right n k)
    have hk' := hword k (Nat.le_add_left k n)
    have hkeyed' : (s.afterEncrypt output.toNat message.toNat n).cc.keyed = true :=
      (chachaAdvances_keyed n s.cc).trans hkeyed
    rw [exec_chacha20Encrypt_of_valid hkeyed (hnk.symm ▸ hout) (hnk.symm ▸ hmsg) (hnk.symm ▸ hoverlap),
      exec_chacha20Encrypt_of_valid hkeyed (hn.symm ▸ hout.first) (hn.symm ▸ hmsg.first)
        (hn.symm ▸ refOverlapAllowed_first hoverlap), andThen, hn,
      exec_chacha20Encrypt_of_valid hkeyed' (hk'.symm ▸ hout.second hk) (hk'.symm ▸ hmsg.second hk)
        (hk'.symm ▸ refOverlapAllowed_second hk hout hmsg hoverlap),
      hnk, hk', hout.toNat_add hk, hmsg.toNat_add hk, State.afterEncrypt_add]

/-! ### One byte (R224, R226) -/

theorem chachaKsByte_eq_refByte (ks : Vector Word 16) (i : Nat) :
    chachaKsByte ks i = refByte (ks.getD (i / 4) 0).toNat (i % 4) := leByte_eq_refByte _ _

/-- The block is replaced exactly where all of it is consumed. -/
theorem chachaRefill_of_lt {c : ChachaContext} (h : c.off.toNat < 64) : chachaRefill c = c :=
  if_neg (by bv_omega)

theorem chachaRefill_of_eq {c : ChachaContext} (h : c.off.toNat = 64) :
    chachaRefill c =
      { c with key := chachaCounterIncrement c.key, ks := chachaBlock (chachaCounterIncrement c.key), off := 0 } :=
  if_pos (BitVec.eq_of_toNat_eq h)

theorem chachaRefill_off_lt {c : ChachaContext} (h : c.off.toNat ≤ 64) : (chachaRefill c).off.toNat < 64 := by
  obtain hlt | heq := h.lt_or_eq
  · rwa [chachaRefill_of_lt hlt]
  · simp [chachaRefill_of_eq heq]

theorem chachaAdvance_off {c : ChachaContext} (h : c.off.toNat ≤ 64) :
    (chachaAdvance c).off.toNat = (chachaRefill c).off.toNat + 1 := by
  have hlt := chachaRefill_off_lt h
  rw [chachaAdvance, BitVec.toNat_add, Nat.mod_eq_of_lt]
  · rfl
  · exact lt_of_le_of_lt (Nat.succ_le_of_lt hlt) (by decide)

theorem refOverlapAllowed_one (output message : Word) : refOverlapAllowed output message 1 := by
  unfold refOverlapAllowed
  bv_omega

/-- Settles O37: the loop runs once. -/
theorem encryptOneByte : Obligations.EncryptOneByte := by
  intro s output message hkeyed hoff hout hmsg
  refine ⟨chachaAdvance s.cc, s.mem.write output.toNat (s.mem.read message.toNat ^^^ chachaNextByte s.cc),
    exec_chacha20Encrypt_of_valid hkeyed hout hmsg (refOverlapAllowed_one output message),
    (chachaAdvance_keyed s.cc).trans hkeyed, fun hlt => ?_, fun heq => ?_, ?_,
    fun a ha => Memory.read_write_other _ _ ha⟩
  · rw [chachaAdvance_off hoff, chachaAdvance, chachaRefill_of_lt hlt]
    exact ⟨rfl, rfl, rfl⟩
  · rw [chachaAdvance_off hoff, chachaAdvance, chachaRefill_of_eq heq]
    exact ⟨rfl, rfl, rfl⟩
  · rw [Memory.read_write_same, chachaAdvance_off hoff, Nat.add_sub_cancel, chachaNextByte, chachaKsByte_eq_refByte]
    rfl

end Sys2Proof.Machine
end

section
/-! The keystream as a function of the position (R230): a context that holds the block of its counter uses, byte by
byte, the keystream at its position, so that encrypting twice from one position restores the message. -/

namespace Sys2Proof.Machine

/-! ### The position of a context -/

theorem keystreamPosition_toNat (c : ChachaContext) :
    (keystreamPosition c).toNat = (64 * (c.key[13] ++ c.key[12]).toNat + c.off.toNat) % 2 ^ 70 := by
  rw [keystreamPosition, BitVec.toNat_add, toNat_append_eq_mul_add, BitVec.toNat_setWidth,
    Nat.mod_eq_of_lt (a := c.off.toNat) (by omega)]
  rfl

theorem chachaCounterIncrement_toNat (key : Vector Word 16) :
    ((chachaCounterIncrement key)[13] ++ (chachaCounterIncrement key)[12]).toNat =
      ((key[13] ++ key[12]).toNat + 1) % 2 ^ 64 := by
  rw [(counterIncrementIs64Bit key).1]
  exact BitVec.toNat_add _ _

/-- Going on to the next block keeps the position: 64 bytes consumed are one more in the counter (R226). -/
theorem keystreamPosition_chachaRefill {c : ChachaContext} (h : c.off.toNat ≤ 64) :
    keystreamPosition (chachaRefill c) = keystreamPosition c := by
  obtain hlt | heq := h.lt_or_eq
  · rw [chachaRefill_of_lt hlt]
  · have hzero : (chachaRefill c).off.toNat = 0 := by
      rw [chachaRefill_of_eq heq]
      rfl
    apply BitVec.eq_of_toNat_eq
    rw [keystreamPosition_toNat, keystreamPosition_toNat, hzero, heq, chachaRefill_of_eq heq,
      chachaCounterIncrement_toNat]
    omega

theorem keystreamPosition_chachaAdvance {c : ChachaContext} (h : c.off.toNat ≤ 64) :
    keystreamPosition (chachaAdvance c) = keystreamPosition c + 1 := by
  rw [← keystreamPosition_chachaRefill h]
  apply BitVec.eq_of_toNat_eq
  rw [keystreamPosition_toNat, chachaAdvance_off h, BitVec.toNat_add, keystreamPosition_toNat, Nat.mod_add_mod]
  rfl

/-- The position of a context with part of its block left splits into its counter and its offset. -/
theorem chachaSeek_keystreamPosition {c : ChachaContext} (h : c.off.toNat < 64) :
    chachaSeek c.key (keystreamPosition c) = c.key ∧ (keystreamPosition c).toNat % 64 = c.off.toNat := by
  have hp := keystreamPosition_toNat c
  rw [toNat_append_eq_mul_add] at hp
  refine ⟨chachaSeek_of_counter (BitVec.eq_of_toNat_eq ?_) (BitVec.eq_of_toNat_eq ?_), by omega⟩
  · rw [positionCounterLow_toNat]
    omega
  · rw [positionCounterHigh_toNat]
    omega

/-- Setting a position and reading it back (R227). -/
theorem keystreamPosition_seek (c : ChachaContext) (p : BitVec 70) : keystreamPosition (c.seek p) = p := by
  apply BitVec.eq_of_toNat_eq
  simp only [keystreamPosition_toNat, ChachaContext.seek, chachaSeek_low, chachaSeek_high, toNat_append_eq_mul_add,
    positionCounterLow_toNat, positionCounterHigh_toNat, positionOffset_toNat]
  omega

/-! ### The keystream at a position -/

/-- KS(P) is the byte at the offset of P in the block of the counter of P. -/
theorem keystreamAt_eq_chachaKsByte (key : Vector Word 16) (p : BitVec 70) :
    keystreamAt key p = chachaKsByte (chachaBlock (chachaSeek key p)) (p.toNat % 64) := by
  have hlow : positionCounterLow p = BitVec.ofNat 32 (p.toNat / 64) :=
    BitVec.eq_of_toNat_eq (positionCounterLow_toNat p)
  have hhigh : positionCounterHigh p = BitVec.ofNat 32 (p.toNat / 64 / 2 ^ 32) := by
    apply BitVec.eq_of_toNat_eq
    rw [positionCounterHigh_toNat, BitVec.toNat_ofNat]
    omega
  rw [chachaKsByte_eq_refByte, chachaSeek, hlow, hhigh, keystreamAt, Nat.mod_mod_of_dvd _ (by decide)]

/-- The keystream does not depend on where the counter stands. -/
theorem sameButCounter.keystreamAt_eq {key key' : Vector Word 16} (h : sameButCounter key key') (p : BitVec 70) :
    keystreamAt key' p = keystreamAt key p := by
  rw [keystreamAt_eq_chachaKsByte, keystreamAt_eq_chachaKsByte, h.chachaSeek_eq]

/-! ### Contexts that hold the block of their counter -/

/-- The clauses of R31 that the keystream rests on: the offset is in 0..64 and `ks` is the block of the matrix. -/
def holdsItsBlock (c : ChachaContext) : Prop := c.off.toNat ≤ 64 ∧ c.ks = chachaBlock c.key

theorem chachaRefill_ks {c : ChachaContext} (h : holdsItsBlock c) :
    (chachaRefill c).ks = chachaBlock (chachaRefill c).key := by
  unfold chachaRefill
  split
  · rfl
  · exact h.2

theorem holdsItsBlock.advance {c : ChachaContext} (h : holdsItsBlock c) : holdsItsBlock (chachaAdvance c) :=
  ⟨(chachaAdvance_off h.1).trans_le (chachaRefill_off_lt h.1), chachaRefill_ks h⟩

theorem holdsItsBlock.advances {c : ChachaContext} (h : holdsItsBlock c) (n : Nat) :
    holdsItsBlock (chachaAdvances n c) ∧
      keystreamPosition (chachaAdvances n c) = keystreamPosition c + BitVec.ofNat 70 n := by
  induction n generalizing c with
  | zero => exact ⟨h, (BitVec.add_zero _).symm⟩
  | succ n ih =>
    obtain ⟨hholds, hposition⟩ := ih h.advance
    refine ⟨hholds, hposition.trans ?_⟩
    rw [keystreamPosition_chachaAdvance h.1, BitVec.add_assoc, Nat.add_comm n, BitVec.ofNat_add]
    rfl

/-- The byte used next is the keystream at the position. -/
theorem holdsItsBlock.nextByte_eq {c : ChachaContext} (h : holdsItsBlock c) :
    chachaNextByte c = keystreamAt c.key (keystreamPosition c) := by
  obtain ⟨hseek, hoff⟩ := chachaSeek_keystreamPosition (chachaRefill_off_lt h.1)
  rw [← (chachaRefill_sameButCounter c).keystreamAt_eq, ← keystreamPosition_chachaRefill h.1,
    keystreamAt_eq_chachaKsByte, hseek, hoff, ← chachaRefill_ks h, chachaNextByte]

/-! ### The output bytes -/

/-- Output byte i depends on message byte i as it was before the command: where the buffers are the same or disjoint,
the bytes written before it do not reach it, nor do those written after it reach the output byte (R73, R74). -/
theorem chachaCrypt_read_output {output message n i : Nat} (hi : i < n)
    (hoverlap : output = message ∨ output + n ≤ message ∨ message + n ≤ output) (c : ChachaContext) (m : Memory) :
    (chachaCrypt output message n c m).read (output + i) =
      m.read (message + i) ^^^ chachaNextByte (chachaAdvances i c) := by
  obtain ⟨k, rfl⟩ : ∃ k, n = i + (k + 1) := ⟨n - i - 1, by omega⟩
  rw [chachaCrypt_add, chachaCrypt, chachaCrypt_read_other _ _ _ _ _ (.inl (Nat.lt_succ_self _)),
    Memory.read_write_same, chachaCrypt_read_other _ _ _ _ _ (by omega)]

/-- Settles O39: byte i is encrypted by the context after i bytes, whose position is P0 + i. -/
theorem encryptXorsKeystreamAtPosition : Obligations.EncryptXorsKeystreamAtPosition := by
  intro s output message length hkeyed hoff hks hout hmsg hoverlap
  have hholds : holdsItsBlock s.cc := ⟨hoff, hks⟩
  refine ⟨_, exec_chacha20Encrypt_of_valid hkeyed hout hmsg hoverlap, fun i hi => ?_, (hholds.advances _).2⟩
  obtain ⟨hholds', hposition⟩ := hholds.advances i
  have hnats : output.toNat = message.toNat ∨ output.toNat + length.toNat ≤ message.toNat ∨
      message.toNat + length.toNat ≤ output.toNat := hoverlap.imp_left (congrArg BitVec.toNat)
  refine (chachaCrypt_read_output hi hnats s.cc s.mem).trans ?_
  rw [hholds'.nextByte_eq, hposition, (chachaAdvances_sameButCounter i s.cc).keystreamAt_eq]

/-! ### Encrypting and decrypting in place (R106, R230 (c)) -/

/-- Encrypting in place: the bytes of the buffer are XORed with the keystream from the position on, the others stay. -/
theorem exec_chacha20Encrypt_in_place {s : State} {buffer length : Word} (hkeyed : s.cc.keyed = true)
    (hholds : holdsItsBlock s.cc) (hbuffer : BufferValid s.platform buffer length.toNat) :
    ∃ t, exec (.chacha20Encrypt buffer buffer length) s = .next t ∧ t.platform = s.platform ∧
      t.cc.keyed = true ∧ sameButCounter s.cc.key t.cc.key ∧
      (∀ i < length.toNat, t.mem.read (buffer.toNat + i) = s.mem.read (buffer.toNat + i) ^^^
        keystreamAt s.cc.key (keystreamPosition s.cc + BitVec.ofNat 70 i)) ∧
      ∀ a, a < buffer.toNat ∨ buffer.toNat + length.toNat ≤ a → t.mem.read a = s.mem.read a := by
  have hoverlap : refOverlapAllowed buffer buffer length.toNat := .inl rfl
  obtain ⟨t, hexec, hbytes, -⟩ :=
    encryptXorsKeystreamAtPosition s buffer buffer length hkeyed hholds.1 hholds.2 hbuffer hbuffer hoverlap
  obtain ⟨c, m, hexec', hkeyed', hkey, hframe⟩ :=
    encryptCompletesAndFrames s buffer buffer length hkeyed hbuffer hbuffer hoverlap
  obtain rfl : t = { s with cc := c, mem := m, resp := 0 } := by simpa [hexec] using hexec'
  exact ⟨_, hexec, rfl, hkeyed', hkey, hbytes, hframe⟩

/-- Settles O40: both times byte i is XORed with the keystream at P0 + i. -/
theorem encryptThenDecryptRestores : Obligations.EncryptThenDecryptRestores := by
  intro s buffer length high32 low32 upper6 hkeyed hoff hks hbuffer hposition
  have hp : streamPosition upper6 high32 low32 = keystreamPosition s.cc :=
    BitVec.eq_of_toNat_eq ((streamPosition_toNat upper6 high32 low32).trans hposition)
  obtain ⟨t, hencrypt, hplatform, hkeyed', hkey, hbytes, hframe⟩ :=
    exec_chacha20Encrypt_in_place hkeyed ⟨hoff, hks⟩ hbuffer
  have hkey' : sameButCounter s.cc.key (t.cc.seek (keystreamPosition s.cc)).key :=
    hkey.trans (chachaSeek_sameButCounter _ _)
  obtain ⟨u, hdecrypt, -, -, -, hbytes', hframe'⟩ :=
    exec_chacha20Encrypt_in_place (s := (t.withCc (t.cc.seek (keystreamPosition s.cc))).withResp 0) hkeyed'
      ⟨(positionOffset_lt _).le, rfl⟩ (hplatform ▸ hbuffer)
  simp only [State.withResp_cc, State.withCc_cc, State.withResp_mem, State.withCc_mem, keystreamPosition_seek,
    hkey'.keystreamAt_eq] at hbytes' hframe'
  refine ⟨u, ?_, fun a => ?_⟩
  · rw [hencrypt, andThen, exec_chacha20PositionSet_of_keyed hkeyed', hp, andThen, hdecrypt]
  by_cases ha : a < buffer.toNat ∨ buffer.toNat + length.toNat ≤ a
  · exact (hframe' a ha).trans (hframe a ha)
  · obtain ⟨i, rfl⟩ : ∃ i, a = buffer.toNat + i := ⟨a - buffer.toNat, by omega⟩
    have hi : i < length.toNat := by omega
    rw [hbytes' i hi, hbytes i hi, BitVec.xor_assoc, BitVec.xor_self, BitVec.xor_zero]

end Sys2Proof.Machine
end

section
/-! The two exceptions (R261, R262) and where a command ends: it completes exactly where the spec gives its use a
meaning (93 U1 to U5), and none faults (R269). -/

namespace Sys2Proof.Machine

/-! ### Illegal frames and idle steps -/

/-- Settles O7: a frame of the reference's list decodes to no command (O3), and RESP takes the exception's code. -/
theorem illegalFrameRaisesIllegalCommand : Obligations.IllegalFrameRaisesIllegalCommand := by
  intro s f rest hin hillegal
  obtain ⟨e, hdecode⟩ := (decodeRefusesExactlyIllegalFrames f).mpr hillegal
  calc step s
    _ = runFrame f (s.withInput rest) := step_of_input_cons hin
    _ = .next (((s.withInput rest).withFrame f).withResp 2) := runFrame_of_illegal hdecode _

/-- Settles O8: the case of `step` without an action. -/
theorem idleBlockHoldsItsState : Obligations.IdleBlockHoldsItsState := fun _ h => step_of_input_nil h

/-! ### Key lengths -/

theorem exec_chacha20KeyExpand_of_bad_length {keyLength : Byte} (h : keyLengthValid keyLength = false)
    (nonce key : Word) (s : State) : exec (.chacha20KeyExpand nonce key keyLength) s = .next (s.withResp 1) :=
  (execChacha20KeyExpand_next nonce key keyLength s _).mpr (.inr ⟨h, rfl⟩)

/-- Settles O33: the key length is checked before the buffers, which are the preconditions of the other lengths. -/
theorem badKeyLengthChangesOnlyResp : Obligations.BadKeyLengthChangesOnlyResp := by
  intro s nonce key keyLength
  constructor
  · intro h16 h32
    have hlen : ¬keyLengthValid keyLength = true := fun h =>
      ((keyLengthValid_iff_toNat keyLength).mp h).elim h16 h32
    exact exec_chacha20KeyExpand_of_bad_length (eq_false_of_ne_true hlen) nonce key s
  · intro hlen hnonce hkey
    exact ⟨_, exec_chacha20KeyExpand_of_valid ((keyLengthValid_iff_toNat keyLength).mpr hlen) hnonce hkey, rfl⟩

/-! ### No command faults (R269) -/

section
variable {r : Fault}

theorem complete_ne_fault (s : State) : complete s ≠ .fault r := nofun

variable {k : Result} (hk : k ≠ .fault r)
include hk

theorem requireAccumulating_ne_fault {e : HashEngine} {p : Phase} : requireAccumulating e p k ≠ .fault r := by
  cases p with
  | accumulating => exact hk
  | uninitialized => exact nofun
  | finalized => exact nofun

theorem requireKeyed_ne_fault {c : ChachaContext} : requireKeyed c k ≠ .fault r := by
  unfold requireKeyed
  split
  · exact hk
  · exact nofun

theorem requireBuffer_ne_fault {pl : Platform} {p : Word} {n : Nat} : requireBuffer pl p n k ≠ .fault r := by
  unfold requireBuffer
  split
  · exact hk
  · exact nofun

theorem requireOverlapAllowed_ne_fault {output message length : Word} :
    requireOverlapAllowed output message length k ≠ .fault r := by
  unfold requireOverlapAllowed
  split
  · exact hk
  · exact nofun

end

/-- A command is a chain of preconditions before its completion, and what a precondition shuts out it refuses. -/
theorem exec_ne_fault (i : Instr) (s : State) (r : Fault) : exec i s ≠ .fault r := by
  cases i with
  | md5Init | sha256Init | sha512Init => exact complete_ne_fault _
  | md5DataAdd | md5Calc | sha256DataAdd | sha256Calc | sha512DataAdd | sha512Calc =>
    exact requireAccumulating_ne_fault (requireBuffer_ne_fault (complete_ne_fault _))
  | chacha20KeyExpand nonce key keyLength =>
    cases hlen : keyLengthValid keyLength with
    | true => exact (if_pos hlen).trans_ne (requireBuffer_ne_fault (requireBuffer_ne_fault (complete_ne_fault _)))
    | false => exact (exec_chacha20KeyExpand_of_bad_length hlen nonce key s).trans_ne nofun
  | chacha20Encrypt =>
    exact requireKeyed_ne_fault (requireBuffer_ne_fault (requireBuffer_ne_fault
      (requireOverlapAllowed_ne_fault (complete_ne_fault _))))
  | chacha20PositionSet => exact requireKeyed_ne_fault (complete_ne_fault _)

/-! ### Which commands complete (93 U1 to U5) -/

theorem keyLengthValid_iff (keyLength : Byte) :
    keyLengthValid keyLength = true ↔ keyLength = 16 ∨ keyLength = 32 := by
  simp [keyLengthValid]

/-- The preconditions of a command are the negations of the uses its rule calls undefined. -/
theorem exec_completes_iff (i : Instr) (s : State) : (∃ t, exec i s = .next t) ↔ ¬refUndefined s i := by
  cases i with
  | md5Init | sha256Init | sha512Init => exact iff_of_true ⟨_, rfl⟩ id
  | md5DataAdd => simp [exec, refUndefined, execMd5DataAdd_next, md5Length_eq]
  | md5Calc => simp [exec, refUndefined, execMd5Calc_next, md5DigestBytes]
  | sha256DataAdd => simp [exec, refUndefined, execSha256DataAdd_next]
  | sha256Calc => simp [exec, refUndefined, execSha256Calc_next, sha256DigestBytes_eq]
  | sha512DataAdd => simp [exec, refUndefined, execSha512DataAdd_next]
  | sha512Calc => simp [exec, refUndefined, execSha512Calc_next, sha512DigestBytes_eq]
  | chacha20KeyExpand nonce key keyLength =>
    simp only [exec, refUndefined, execChacha20KeyExpand_next, ← keyLengthValid_iff, nonceBytes]
    cases keyLengthValid keyLength <;> simp
  | chacha20Encrypt => simp [exec, refUndefined, execChacha20Encrypt_next, overlapAllowed_iff_ref]
  | chacha20PositionSet => simp [exec, refUndefined, execChacha20PositionSet_next]

/-- Settles O43: a command completes where no use is undefined, and elsewhere it is refused. -/
theorem completesExactlyWhenDefined : Obligations.CompletesExactlyWhenDefined := fun i s =>
  ⟨exec_completes_iff i s, exec_ne_fault i s⟩

end Sys2Proof.Machine
end

section
/-! The host's own actions, reset and byte writes (R290, R300), and admitted runs: what every step keeps, a run of
steps keeps (93 part 1). -/

namespace Sys2Proof.Machine

/-! ### The host's own actions -/

/-- Settles O9: the values are those of the definition (O10), but for what a reset takes from the old state. -/
theorem resetActionGivesResetValues : Obligations.ResetActionGivesResetValues := by
  intro s rest hin
  have hstep : step s = .next (resetBlock (s.withInput rest)) := step_of_input_cons hin
  exact ⟨_, hstep, rfl, rfl, rfl, rfl, rfl, rfl, rfl, rfl⟩

theorem hostWriteByte_of_invalid {a : Word} {s : State} (h : validAddr s.platform a.toNat = false) (b : Byte) :
    hostWriteByte a b s = .fault (.hostWriteOutsideMemory a) := by
  simp [hostWriteByte, h]

/-- Settles O11: in `ValidAddr` the write is that of memory, elsewhere it faults. -/
theorem hostWriteAction : Obligations.HostWriteAction := by
  intro s a b rest hin
  have hstep : step s = hostWriteByte a b (s.withInput rest) := step_of_input_cons hin
  constructor
  · intro hvalid
    refine ⟨s.mem.write a.toNat b, ?_, Memory.read_write_same _ _ _, fun x hx => Memory.read_write_other _ b hx⟩
    exact hstep.trans ((hostWriteByte_next a b (s.withInput rest) _).mpr ⟨hvalid, rfl⟩)
  · intro hinvalid
    exact hstep.trans (hostWriteByte_of_invalid (s := s.withInput rest) hinvalid b)

/-! ### No step changes the parameters (R9) -/

theorem exec_keeps_platform {i : Instr} {s t : State} (ht : exec i s = .next t) : t.platform = s.platform := by
  obtain ⟨-, -, -, -, -, -, -, -, hplatform, -⟩ := commandsTouchOneEngine i s t ht
  exact hplatform

theorem runFrame_keeps_platform {f : Frame} {s t : State} (ht : runFrame f s = .next t) :
    t.platform = s.platform := by
  cases hd : decode f with
  | ok i =>
    rw [runFrame_of_decoded hd] at ht
    exact (exec_keeps_platform ht).trans (s.withFrame_platform f)
  | error e =>
    rw [runFrame_of_illegal hd] at ht
    cases ht
    rfl

theorem runAction_keeps_platform {a : HostAction} {s t : State} (ht : runAction a s = .next t) :
    t.platform = s.platform := by
  cases a with
  | issue f => exact runFrame_keeps_platform ht
  | writeByte a b =>
    obtain ⟨-, rfl⟩ := (hostWriteByte_next a b s t).mp ht
    rfl
  | reset =>
    cases ht
    rfl

theorem step_keeps_platform {s t : State} (ht : step s = .next t) : t.platform = s.platform := by
  cases hin : s.input with
  | nil =>
    rw [step_of_input_nil hin] at ht
    cases ht
    rfl
  | cons a rest =>
    rw [step_of_input_cons hin] at ht
    exact (runAction_keeps_platform ht).trans (s.withInput_platform rest)

/-! ### Runs of steps -/

/-- A sequence answers a next state where its first part does and its second part does from there. -/
theorem andThen_next (r : Result) (k : State → Result) (t : State) :
    andThen r k = .next t ↔ ∃ u, r = .next u ∧ k u = .next t := by
  cases r <;> simp [andThen]

/-- What every step keeps, every run of steps keeps. -/
theorem runSteps_keeps {P : State → Prop} (hstep : ∀ s t, P s → step s = .next t → P t) {n : Nat} {s t : State}
    (hs : P s) (ht : runSteps n s = .next t) : P t := by
  induction n generalizing s with
  | zero =>
    cases ht
    exact hs
  | succ n ih =>
    obtain ⟨u, hu, hrest⟩ := (andThen_next _ _ t).mp ht
    exact ih (hstep s u hs hu) hrest

/-- Settles O58: every step keeps the invariant (O56) and the parameters. -/
theorem admittedRunsKeepInvariant : Obligations.AdmittedRunsKeepInvariant := by
  rintro n s hs ⟨t, ht⟩
  have hinv : t.Inv := runSteps_keeps invariantKeptByEveryStep hs ht
  have hplatform : t.platform = s.platform :=
    runSteps_keeps (P := fun u => u.platform = s.platform) (fun _ _ h hu => (step_keeps_platform hu).trans h) rfl ht
  exact ⟨t, ht, hinv, hplatform⟩

end Sys2Proof.Machine
end
